-- ==== Sys2Proof/Word.lean ====
section
/-! DEFINITION. The words of the device: a lane byte, a position of the Scale Bus, and a table with a fixed
number of places. Nothing here states a rule of the data book. -/

namespace Sys2Proof

/-- One byte of a lane or of a rule set image. -/
abbrev Byte := BitVec 8

/-- A position on the Scale Bus: 0 (A), 1 (B), 2 to 11 (L1 to L10). -/
abbrev Pos := Fin 12

/-- A table with exactly `n` places. -/
structure Tab (α : Type) (n : Nat) where
  items : List α
  len : items.length = n
deriving DecidableEq, Repr

namespace Tab

variable {α β : Type} {n : Nat}

/-- The content of place `i`. -/
def get (t : Tab α n) (i : Fin n) : α := t.items.get (i.cast t.len.symm)

/-- The table with place `i` rewritten. -/
def put (t : Tab α n) (i : Fin n) (x : α) : Tab α n :=
  ⟨t.items.set i x, by simp [t.len]⟩

/-- The table that holds `x` everywhere. -/
def fill (n : Nat) (x : α) : Tab α n := ⟨List.replicate n x, by simp⟩

/-- The table whose place `i` holds `f i`. -/
def build (n : Nat) (f : Fin n → α) : Tab α n := ⟨List.ofFn f, by simp⟩

/-- Every place mapped by `f`. -/
def map (f : α → β) (t : Tab α n) : Tab β n := ⟨t.items.map f, by simp [t.len]⟩

/-- Place `i` rewritten by `f`. -/
def modify (t : Tab α n) (i : Fin n) (f : α → α) : Tab α n := t.put i (f (t.get i))

end Tab

/-- The twelve positions in ascending order. -/
def allPos : List Pos := [0, 1, 2, 3, 4, 5, 6, 7, 8, 9, 10, 11]

/-- The sixteen Source Table entry indices in ascending order. -/
def allEntries : List (Fin 16) := [0, 1, 2, 3, 4, 5, 6, 7, 8, 9, 10, 11, 12, 13, 14, 15]

end Sys2Proof
end

