-- ==== Sys2Proof/Syntax.lean ====
section
/-! DEFINITION. The commands of the device: one constructor for each row of spec/opcode_table.json. -/

namespace Sys2Proof

/-- The two controllers: A in position 0, B in position 1. -/
inductive Ctl where
  | a
  | b
deriving DecidableEq, Repr

/-- The order in which the device takes what meets in one frame end, where the rules leave it open (log 6).
`requestsFirst`: the requests completed in the frame are taken before the departures, the joins (R103; log 55), the lead
changes, the latency count (log 51) and the time-out of the frame (R45, R139, R140). `marksFirst`: the marks of the frame
are judged against the lead holder the frame began with (R9, R10). `lanes`: the lanes whose requests are taken first, in
this order; the others follow in ascending order. -/
structure FrameOrder where
  requestsFirst : Bool := true
  marksFirst : Bool := true
  lanes : List Pos := []
deriving DecidableEq, Repr

/-- A command: an event at the device's pins, a step of its clock, an operation of a lane, or a request taken
whole on the lane of position `p`. Payload fields have the widths of R185. -/
inductive Instr where
  -- power, reset and clock
  | startUp
  | resetAssert (clk : BitVec 12)
  | mainPowerLoss
  | vbakLow (boundaries : Nat)
  | refclkStop (clk : BitVec 12)
  | refclkResume
  -- frames and seconds
  | frameEnd (segs : List (BitVec 48)) (order : FrameOrder)
  | markMiss (c : Ctl)
  | secondBoundary
  | stale (i : Fin 16)
  | takeCheckDue (p : Pos)
  | lagLimitReached (p : Pos)
  | quietFrames
  | realignment
  | loadTimedOut
  -- lanes
  | transferBegin (p : Pos)
  | transferComplete (p : Pos)
  | badForm (p : Pos) (bytes : List Byte)
  | unknownKind (p : Pos) (kind : Byte) (payload : List Byte)
  -- requests
  | announce (p : Pos) (origin ds kind : Byte) (instant : Option (BitVec 40))
  | setTime (p : Pos) (x : BitVec 40)
  | setOffset (p : Pos) (value : BitVec 16)
  | confirm (p : Pos) (id : Byte)
  | withdraw (p : Pos) (id : Byte)
  | shiftZone (p : Pos) (zone : Byte) (offset : BitVec 16) (instant : BitVec 40)
  | configure (p : Pos) (param : Byte) (value : BitVec 32)
  | setPosition (p : Pos) (target mode zone : Byte)
  | muteSourceMute (p : Pos) (target origin : Byte)
  | muteSourceUnmute (p : Pos) (target origin : Byte)
  | clearScale (p : Pos)
  | rulesetStart (p : Pos) (length : BitVec 16) (units : Byte) (serial : BitVec 32)
  | rulesetData (p : Pos) (bytes : List Byte)
  | rulesetFinish (p : Pos)
  | rulesetAbandon (p : Pos)
  | rehearse (p : Pos) (span : BitVec 16)
  | rehearsalCancel (p : Pos)
  -- queries
  | querySchedule (p : Pos) (index : Byte)
  | querySource (p : Pos) (index : Byte)
  | queryPosition (p : Pos) (index : Byte)
  | queryHistory (p : Pos) (index : Byte)
  | queryConfig (p : Pos) (index : Byte)
  | queryZone (p : Pos) (index : Byte)
  | queryRuleset (p : Pos) (index : Byte)
  | queryRehearsal (p : Pos) (index : Byte)
deriving DecidableEq, Repr

end Sys2Proof
end

