-- ==== Sys2Proof/Decode.lean ====
section
/-! DEFINITION. The commands that a word spells. The table gives no row a bit: the commands come over pins, clocks
and lanes, and the lanes' parcels are read in Machine/Operands.lean. -/

namespace Sys2Proof

/-- The command that a word spells by the table's bits: none, for no row has any. -/
def decodeTableWord (_ _ : Nat) : Option Instr := none

end Sys2Proof
end

