-- ==== Sys2Proof/Config.lean ====
section
/-! DEFINITION. What is fixed for the device: the numbers of the data book, the table of the configuration
parameters, and the free values of the model. -/

namespace Sys2Proof.Config

/-- R2: the greatest value of T, 2^40 − 1. -/
def maxT : Nat := 1099511627775

/-- R18: the seconds of a UTC day. -/
def dayLength : Nat := 86400

/-- R20: the greatest effective day. -/
def maxDay : Nat := 12725829

/-- R1: the frames of a full second. -/
def framesPerSecond : Nat := 1000

/-- R157: the first quiet frame. -/
def quietFrame : Nat := 980

/-- R160: the last frame whose end takes the first byte of a parcel. -/
def lastOpeningFrame : Nat := 948

/-- R171: the entries a notice board holds. -/
def boardRoom : Nat := 48

/-- R55: the records of the scale class. -/
def scaleRoom : Nat := 5

/-- R65: the items of the withdrawn list. -/
def listRoom : Nat := 8

/-- R83: the entries of the history. -/
def historyRoom : Nat := 8

/-- R5: the interval count at which a miss is counted and at which the count saturates. -/
def intervalLimit : Nat := 1001

/-- R42, R122: the value at which a 16-bit count saturates. -/
def count16 : Nat := 65535

/-- One row of the table of R169. -/
structure Row where
  low : Nat
  high : Nat
  default : Nat
deriving DecidableEq, Repr

/-- R169: the ranges and defaults of the twelve parameters. -/
def rows : Tab Row 12 :=
  ⟨[⟨1, 15, 3⟩, ⟨10, 3600, 300⟩, ⟨0, 15, 2⟩, ⟨0, 15, 3⟩, ⟨0, 15, 4⟩, ⟨1, 31, 4⟩,
    ⟨0, 86400, 43200⟩, ⟨10, 7200, 900⟩, ⟨60, 86400, 86400⟩, ⟨0, 1, 0⟩, ⟨1, 10, 2⟩, ⟨2, 255, 10⟩], rfl⟩

/-- The parameter numbers of R169. -/
abbrev Param := Fin 12

def persistence : Param := 0
def stalenessLimit : Param := 1
def weightNetwork : Param := 2
def weightSatellite : Param := 3
def weightOperator : Param := 4
def quorum : Param := 5
def horizon : Param := 6
def armingLead : Param := 7
def smearWindow : Param := 8
def placement : Param := 9
def takeLimit : Param := 10
def lagLimit : Param := 11

/-- R169: the configuration without backup good. -/
def defaults : Tab Nat 12 := rows.map Row.default

/-- FREE VALUE (log 18). R186 puts the subject of a QUERY into three bits of every answer to it; for a subject
code above 7, which R170 refuses, the data book states no value of the three bits. -/
opaque unlistedSubject : Byte → BitVec 3

/-- FREE VALUE (log 24). R188 puts four flags into one byte of a RESYNC (D known, provisional, INSERTING, T known)
and states no bit for any of them. Each number picks one of the places that the flags before it have left. -/
opaque resyncPlaces : Fin 8 × Fin 7 × Fin 6 × Fin 5

/-- The places picked one after the other from the places `free`. -/
def pickPlaces : List Nat → List Nat → List Nat
  | _, [] => []
  | free, k :: ks => free.getD k 0 :: pickPlaces (free.eraseIdx k) ks

/-- R188, log 24: four different bits of a byte, those of the four flags of a RESYNC. -/
def flagPlaces (x : Fin 8 × Fin 7 × Fin 6 × Fin 5) : List Nat :=
  pickPlaces [0, 1, 2, 3, 4, 5, 6, 7] [x.1.val, x.2.1.val, x.2.2.1.val, x.2.2.2.val]

/-- R184: the byte with the flags `fs` at the places `ks`; a bit that no flag has is 0. -/
def flagsAt (ks : List Nat) (fs : List Bool) : Byte :=
  BitVec.ofNat 8 (((ks.zip fs).map fun x => if x.2 then 2 ^ x.1 else 0).sum)

/-- R188: the flag byte of a RESYNC. -/
def resyncFlags (dKnown provisional inserting tKnown : Bool) : Byte :=
  flagsAt (flagPlaces resyncPlaces) [dKnown, provisional, inserting, tKnown]

end Sys2Proof.Config
end

