-- ==== Sys2Proof/Machine/State.lean ====
section
/-! DEFINITION. The state of the device as plain data, block by block, the reasons a step can stop, and the
state after reset. Rule numbers R<n> are those of spec/. -/

namespace Sys2Proof.Machine

/-! ### Named values -/

/-- R5: the mode of a mark tracker. -/
inductive TrackerMode where
  | seeking
  | aligned
  | flywheel
deriving DecidableEq, Repr

/-- R18: the two kinds of leap. -/
inductive LeapKind where
  | insert
  | delete
deriving DecidableEq, Repr

/-- R34: the origin of an announcement. -/
inductive SourceOrigin where
  | network
  | satellite
  | operator
deriving DecidableEq, Repr

/-- R34 to R49: the state of a source entry. -/
inductive SourceState where
  | free
  | listening
  | vouching
  | stale
  | muted
deriving DecidableEq, Repr

/-- R53: the origin of a record. -/
inductive RecordOrigin where
  | sources
  | operator
  | ruleset
deriving DecidableEq, Repr

/-- R53: the state of a record. -/
inductive RecordState where
  | heard
  | contested
  | qualified
  | held
  | armed
  | settling
deriving DecidableEq, Repr

/-- R71: why a record is withdrawn. -/
inductive Reason where
  | lapsed
  | met
  | displaced
  | opposed
  | request
  | replaced
  | range
deriving DecidableEq, Repr

/-- R100: the state of a position. -/
inductive PosState where
  | empty
  | joining
  | inStep
  | lagging
  | dropped
deriving DecidableEq, Repr

/-- R101: the intent a card shows. -/
inductive Intent where
  | idle
  | present
  | following
deriving DecidableEq, Repr

/-- R11: the role a controller asks for. -/
inductive Role where
  | none
  | standby
  | lead
deriving DecidableEq, Repr

/-- R117: the delivery mode of a position. -/
inductive Delivery where
  | step
  | smear
deriving DecidableEq, Repr

/-- R90, R123: what a roll call finds at a position. -/
inductive RollMark where
  | ready
  | notReady
  | notCounted
deriving DecidableEq, Repr

/-- 07: the phase of a rehearsal. -/
inductive Phase where
  | none
  | pending
  | armed
  | called
deriving DecidableEq, Repr

/-- R137: the state of the Rule Set Loader. -/
inductive LoaderState where
  | idle
  | loading
  | verifying
deriving DecidableEq, Repr

/-- R160: the state of a lane's inbound direction. -/
inductive Inbound where
  | opened
  | receiving
  | draining
  | held
deriving DecidableEq, Repr

/-- R167: the response codes. -/
inductive Code where
  | accepted
  | notPermitted
  | badForm
  | outOfRange
  | unset
  | busy
  | notFound
  | wrongState
  | tableFull
  | tooLate
  | overrun
  | short
  | checkFailed
  | badContent
  | unknownKind
  | scheduleFull
deriving DecidableEq, Repr

/-! ### Pins and Time Base -/

/-- R146, R176, R177: main power, the reset line, the reference clock and the backup supply.
`vbakLowFor` is how many of the coming boundaries find VBAK below its threshold (log 7). -/
structure Pins where
  powered : Bool
  rstn : Bool
  refclk : Bool
  vbakLowFor : Nat
deriving DecidableEq, Repr

/-- R5: a mark tracker, and the mark bit of the frame before (R4). -/
structure Tracker where
  mode : TrackerMode
  candidate : Option Nat
  run : Nat
  misses : Nat
  interval : Nat
  lastBit : Bool
deriving DecidableEq, Repr

/-- What stands between the frame that has ended and the next one (log 3). -/
inductive Due where
  | nothing
  | second
  | realign (p : Nat)
deriving DecidableEq, Repr

/-- 01: the Time Base. `frame` is the frame in progress, or, while a boundary is due, the frame that ended. -/
structure TimeBase where
  frame : Nat
  busClock : Nat
  due : Due
  t : Option Nat
  pendingTime : Option Nat
  trackerA : Tracker
  trackerB : Tracker
  holder : Option Ctl
  claim : Option Ctl
deriving DecidableEq, Repr

/-! ### Label Unit -/

/-- R31: an offset pair. -/
structure Pair where
  seconds : Nat
  nanos : Nat
deriving DecidableEq, Repr

/-- R26: the next-group kinds. -/
structure GroupKinds where
  insert : Bool
  delete : Bool
  baseline : Bool
  shift : Bool
deriving DecidableEq, Repr

/-- 02: the Label Unit. -/
structure Labels where
  day : Nat
  second : Nat
  inserting : Bool
  countdown : Nat
  kinds : GroupKinds
  tag : Nat
  rehearsal : Bool
  pairs : Tab Pair 12
deriving DecidableEq, Repr

/-! ### Source Table -/

/-- 03: what a leap view says: the kind, the effective day and whether the day was inferred. -/
structure LeapView where
  kind : LeapKind
  day : Nat
  inferred : Bool
deriving DecidableEq, Repr

/-- 03: a view. `leap` is absent for kind NONE. -/
structure View where
  ds : Nat
  leap : Option LeapView
deriving DecidableEq, Repr

/-- 03: the key of an entry. -/
structure SourceKey where
  pos : Pos
  origin : SourceOrigin
deriving DecidableEq, Repr

/-- 03: an entry of the Source Table. -/
structure Source where
  key : Option SourceKey
  state : SourceState
  run : Nat
  candidate : Option View
  vouched : Option View
  lastHeard : Option Nat
  allocated : Option Nat
  silence : Nat
deriving DecidableEq, Repr

/-! ### Change Schedule -/

/-- R53: kind, key and new value of a change. The key of a SHIFT is its zone alone. -/
inductive Change where
  | leap (kind : LeapKind) (day : Nat)
  | baseline (target : Nat)
  | shift (zone : Nat) (offset : Int) (instant : Nat)
deriving DecidableEq, Repr

/-- R29: the smear window of an armed leap record. -/
structure Window where
  start : Nat
  stop : Nat
  length : Nat
  dOld : Nat
  dNew : Nat
deriving DecidableEq, Repr

/-- R90: a roll-call result, position by position. -/
abbrev Roll := Tab RollMark 12

/-- R53: a change record. `ref` is the transition (zone, instant) of a RULESET record (R134); `roll` is the
roll-call result a SETTLING record keeps (R90). -/
structure Record where
  id : Nat
  change : Change
  affected : Option Nat
  origin : RecordOrigin
  state : RecordState
  preContest : Option RecordState
  vouch : Nat
  oppose : Nat
  restored : Bool
  late : Bool
  tag : Option Nat
  window : Option Window
  created : Option Nat
  ref : Option (Nat × Nat)
  roll : Option Roll
deriving DecidableEq, Repr

/-- R65: an item of the withdrawn list. -/
structure Listed where
  change : Change
  reason : Reason
  since : Option Nat
deriving DecidableEq, Repr

/-- R63: the refused change. -/
structure Refused where
  change : Change
  vouch : Nat
deriving DecidableEq, Repr

/-- 04: the Change Schedule. `listed` is newest last. -/
structure Schedule where
  records : List Record
  cursor : Nat
  listed : List Listed
  refused : Option Refused
  marks : Tab Bool 16
  agreement : Nat
deriving DecidableEq, Repr

/-! ### Change-over Controller -/

/-- R83: the kind of a history entry. -/
inductive HistoryKind where
  | insert
  | delete
  | baseline
  | shift
  | clear
deriving DecidableEq, Repr

/-- R83: a history entry. -/
structure HistoryEntry where
  gen : BitVec 16
  kind : HistoryKind
  id : Option Nat
  instant : Option Nat
  affected : Option Nat
  dAfter : Option Nat
  shift : Option (Nat × Int)
  applied : Option Nat
deriving DecidableEq, Repr

/-- 05: an armed group; its members are the ARMED records that carry its tag. -/
structure Group where
  affected : Nat
  tag : Nat
  roll : Option Roll
deriving DecidableEq, Repr

/-- 05: the scale register and the Change-over Controller. `inserting` holds the effective day of the INSERT
that set INSERTING; `history` is newest last. -/
structure Scale where
  d : Option Nat
  provisional : Bool
  g : BitVec 16
  inserting : Option Nat
  history : List HistoryEntry
  groups : List Group
  clearPending : Bool
  confirmPending : Bool
deriving DecidableEq, Repr

/-- R122, R123: the rehearsal detail of a position. -/
structure Detail where
  latency : Nat
  reached : Bool
  roll : Option RollMark
deriving DecidableEq, Repr

/-- R124, R126: the last result of a rehearsal. -/
structure RehearsalResult where
  completed : Bool
  ready : Nat
  notReady : Nat
deriving DecidableEq, Repr

/-- 07: the rehearsal state. -/
structure Rehearsal where
  phase : Phase
  span : Nat
  requester : Option Ctl
  tag : Option Nat
  armedAt : Option Nat
  affected : Option Nat
  detail : Tab Detail 12
  result : Option RehearsalResult
deriving DecidableEq, Repr

/-! ### Position Roster -/

/-- R101: a field sampler. -/
structure Sampler (α : Type) where
  last : Option α
  count : Nat
deriving DecidableEq, Repr

/-- 06: a position record (the first-ready latency stands in the rehearsal's detail). -/
structure Position where
  state : PosState
  intent : Intent
  role : Role
  held : Option Byte
  ready : Nat
  sIntent : Sampler Intent
  sRole : Sampler Role
  sHeld : Sampler Byte
  sReady : Sampler Nat
  lag : Nat
  takeCheck : Option Nat
  cursor : Option (Option Byte × BitVec 16)
  mode : Delivery
  zone : Fin 16
  pendingSettings : Option (Delivery × Fin 16)
deriving DecidableEq, Repr

/-! ### Zones and rule sets -/

/-- R133: a transition of the rule set store. -/
structure Transition where
  zone : Nat
  instant : Nat
  offset : Int
  skipped : Bool
deriving DecidableEq, Repr

/-- R133: the rule set store. -/
structure RuleStore where
  serial : BitVec 32
  transitions : List Transition
deriving DecidableEq, Repr

/-- R137: the Rule Set Loader. The pointer is the length of `buffer`. `fresh` is the model's own: the load was claimed
or restarted in the frame in progress, whose end does not lower the timer (R139; log 34). -/
structure Loader where
  state : LoaderState
  claimer : Option Ctl
  length : Nat
  serial : BitVec 32
  buffer : List Byte
  timer : Nat
  fresh : Bool
deriving DecidableEq, Repr

/-! ### Bus Interface -/

/-- R116: the content of a SLOT_STATE notice. -/
structure SlotReport where
  state : PosState
  intent : Intent
  held : Option Byte
  ready : Nat
  lag : Nat
  mode : Delivery
  zone : Fin 16
deriving DecidableEq, Repr

/-- R87, R120: the content of an ARMED notice. `change` is absent for a rehearsal. -/
structure ArmedReport where
  id : Nat
  change : Option Change
  late : Bool
  newValue : Int
  instant : Nat
  affected : Nat
  tag : Nat
  start : Nat
  stop : Nat
deriving DecidableEq, Repr

/-- R171: the notices. An `applied` notice with `whole` set is that of a CLEAR_SCALE (R96). -/
inductive Notice where
  | armed (r : ArmedReport)
  | withdrawn (id : Nat) (change : Change) (reason : Reason)
  | applied (first last : BitVec 16) (tag ready notReady : Nat) (whole : Bool)
  | missed (id : Nat) (change : Change) (wasArmed : Bool) (affected : Nat)
  | offer
  | slotState (p : Pos) (r : SlotReport)
  | sourceState (i : Fin 16) (e : Source) (spent : Bool)
  | contest (id : Nat) (change : Change) (vouch rival : Nat)
  | scheduleFull (change : Change) (vouch : Nat)
  | timeSlip (p : Nat)
  | leadChanged (holder : Option Ctl)
  | rulesetTimeout (serial : BitVec 32) (pointer : Nat)
  | rehearsalResult (ready notReady : Nat) (cancelled : Bool)
deriving DecidableEq, Repr

/-- R171: a board entry; `joined` is its moment of joining. -/
structure BoardEntry where
  joined : Nat
  notice : Notice
deriving DecidableEq, Repr

/-- R167, R186: an owed response. -/
structure Response where
  code : Code
  kind : Byte
  subject : BitVec 3
  content : List Byte
  withheld : Bool
deriving DecidableEq, Repr

/-- R163: what a parcel in transfer carries. -/
inductive Carried where
  | response
  | notice
  | offer
deriving DecidableEq, Repr

/-- R161: a parcel in transfer and the count of its bytes taken. -/
structure Transfer where
  bytes : List Byte
  taken : Nat
  what : Carried
deriving DecidableEq, Repr

/-- 10: a lane and the position's notice board (oldest entry first). The outbound state is IDLE when
`sending` is absent. `cardTake` is the card's take toggle as last read. -/
structure Lane where
  inbound : Inbound
  take : Bool
  buffer : List Byte
  owed : Option Response
  sending : Option Transfer
  offer : Bool
  cardTake : Bool
  board : List BoardEntry
deriving DecidableEq, Repr

/-- R169: the configuration. -/
structure Settings where
  values : Tab Nat 12
  pending : Tab (Option Nat) 12
deriving DecidableEq, Repr

/-- R148, R183: what the device drives in the frame in progress: the scale word and the twelve return sub-segments,
each field as the state stood at the start of the frame. -/
structure Shown where
  word : BitVec 160
  segments : Tab (BitVec 96) 12
deriving DecidableEq, Repr

/-! ### Retained Store -/

/-- R175: a record as the Retained Store holds it. -/
structure RetainedRecord where
  id : Nat
  change : Change
  origin : RecordOrigin
  state : RecordState
  created : Option Nat
  ref : Option (Nat × Nat)
deriving DecidableEq, Repr

/-- R175: the copy. -/
structure Retained where
  d : Option Nat
  g : BitVec 16
  history : List HistoryEntry
  records : List RetainedRecord
  zones : Tab Int 16
  rules : RuleStore
  values : Tab Nat 12
  positions : Tab (Delivery × Fin 16) 12
deriving DecidableEq, Repr

/-- R177: the Retained Store. -/
structure Store where
  copy : Retained
  good : Bool
deriving DecidableEq, Repr

/-! ### The whole device -/

/-- The state of the device. `moment` counts events (log 21); `pending` is the queue of commands, first in,
first out. -/
structure State where
  pins : Pins
  time : TimeBase
  labels : Labels
  sources : Tab Source 16
  sched : Schedule
  scale : Scale
  rehearsal : Rehearsal
  roster : Tab Position 12
  zones : Tab Int 16
  rules : RuleStore
  loader : Loader
  lanes : Tab Lane 12
  settings : Settings
  store : Store
  bus : Shown
  moment : Nat
  pending : List Instr
deriving DecidableEq, Repr

/-- The faults of a step. The data book names none: every request that cannot be taken is answered with a
code, and an event that cannot come leaves the device as it stands (log 20). Nobody raises one. -/
inductive Fault where
deriving DecidableEq, Repr

/-- The refusals of a step. -/
inductive Refusal where
  /-- A command without a meaning; raised by an arm of `exec` alone, safe. No arm raises it. -/
  | notModelled (mnemonic : String)
deriving DecidableEq, Repr

/-! ### Start-up values -/

/-- R5: a tracker at start-up. -/
def Tracker.initial : Tracker :=
  { mode := .seeking, candidate := none, run := 0, misses := 0, interval := 1001, lastBit := false }

/-- R1, R11, R16: the Time Base at start-up. -/
def TimeBase.initial : TimeBase :=
  { frame := 0, busClock := 0, due := .nothing, t := none, pendingTime := none,
    trackerA := .initial, trackerB := .initial, holder := none, claim := none }

/-- 02: the Label Unit at start-up, before its first boundary. -/
def Labels.initial : Labels :=
  { day := 0, second := 0, inserting := false, countdown := 0,
    kinds := ⟨false, false, false, false⟩, tag := 0, rehearsal := false, pairs := .fill 12 ⟨0, 0⟩ }

/-- R34: a FREE entry. -/
def Source.initial : Source :=
  { key := none, state := .free, run := 0, candidate := none, vouched := none,
    lastHeard := none, allocated := none, silence := 0 }

/-- R78: the schedule at start-up without records. -/
def Schedule.initial : Schedule :=
  { records := [], cursor := 0, listed := [], refused := none, marks := .fill 16 false, agreement := 0 }

/-- R79: the Change-over Controller without backup good. -/
def Scale.initial : Scale :=
  { d := none, provisional := false, g := 0, inserting := none, history := [], groups := [],
    clearPending := false, confirmPending := false }

/-- R119: the detail of a position before any rehearsal. -/
def Detail.initial : Detail := { latency := 0, reached := false, roll := none }

/-- R128: the rehearsal state at start-up. -/
def Rehearsal.initial : Rehearsal :=
  { phase := .none, span := 0, requester := none, tag := none, armedAt := none, affected := none,
    detail := .fill 12 .initial, result := none }

/-- R100: a position at start-up, with its retained settings. -/
def Position.initial (mode : Delivery) (zone : Fin 16) : Position :=
  { state := .empty, intent := .idle, role := .none, held := none, ready := 0,
    sIntent := ⟨none, 0⟩, sRole := ⟨none, 0⟩, sHeld := ⟨none, 0⟩, sReady := ⟨none, 0⟩,
    lag := 0, takeCheck := none, cursor := none, mode := mode, zone := zone, pendingSettings := none }

/-- R133: the store without backup good. -/
def RuleStore.initial : RuleStore := { serial := 0, transitions := [] }

/-- R137: the Loader at start-up. The rule gives no length and no serial (logs 1 and 40), and no value of the stopped timer:
DESIGN CHOICE (unsafe), it holds 0 (log 52). -/
def Loader.initial : Loader :=
  { state := .idle, claimer := none, length := 0, serial := 0, buffer := [], timer := 0,
    fresh := false }

/-- R162: a lane at start-up. -/
def Lane.initial : Lane :=
  { inbound := .opened, take := false, buffer := [], owed := none, sending := none, offer := false,
    cardTake := false, board := [] }

/-- R159: the first frame after a start-up without backup good: every field is 0. -/
def Shown.initial : Shown := { word := 0, segments := .fill 12 0 }

/-- R180: the default image of the Retained Store. -/
def Retained.initial : Retained :=
  { d := none, g := 0, history := [], records := [], zones := .fill 16 0, rules := .initial,
    values := Config.defaults, positions := .fill 12 (.step, 0) }

/-- The device right after reset: powered, RSTN high, REFCLK running, VBAK at or above its threshold, started
up without backup good (R180) and the boundary of frame 0 worked, which wrote the default image and set the
backup-good indicator (R177; log 1). -/
def State.reset : State :=
  { pins := { powered := true, rstn := true, refclk := true, vbakLowFor := 0 }
    time := .initial
    labels := .initial
    sources := .fill 16 .initial
    sched := .initial
    scale := .initial
    rehearsal := .initial
    roster := .fill 12 (.initial .step 0)
    zones := .fill 16 0
    rules := .initial
    loader := .initial
    lanes := .fill 12 .initial
    settings := { values := Config.defaults, pending := .fill 12 none }
    store := { copy := .initial, good := true }
    bus := .initial
    moment := 0
    pending := [] }

end Sys2Proof.Machine
end

