-- ==== Sys2Proof/Machine/Ops.lean ====
section
/-! DEFINITION. The shared operations: reading and rewriting the parts of the state, byte order, sorting, and
the notice boards (R171, R172). -/

namespace Sys2Proof.Machine

/-! ### Reading the state -/

/-- The device runs: main power present, RSTN high, REFCLK running (R1, R159). -/
def State.running (s : State) : Bool := s.pins.powered && s.pins.rstn && s.pins.refclk

def State.pos (s : State) (p : Pos) : Position := s.roster.get p
def State.lane (s : State) (p : Pos) : Lane := s.lanes.get p
def State.source (s : State) (i : Fin 16) : Source := s.sources.get i
def State.records (s : State) : List Record := s.sched.records

/-- R169: the value in effect of a parameter. -/
def State.value (s : State) (k : Config.Param) : Nat := s.settings.values.get k

/-- A position that is not EMPTY. -/
def State.occupied (s : State) (p : Pos) : Bool := (s.pos p).state != .empty

/-- 06: G mod 256. -/
def State.g8 (s : State) : Byte := s.scale.g.setWidth 8

/-- The position of a controller. -/
def ctlPos : Ctl → Pos
  | .a => 0
  | .b => 1

/-- The controller in a position; none at a line card. -/
def posCtl (p : Pos) : Option Ctl := if p = 0 then some .a else if p = 1 then some .b else none

/-- The other controller. -/
def otherCtl : Ctl → Ctl
  | .a => .b
  | .b => .a

/-- R15: position `p` holds the lead. -/
def State.holdsLead (s : State) (p : Pos) : Bool :=
  match s.time.holder with
  | some c => decide (ctlPos c = p)
  | none => false

def TimeBase.tracker (b : TimeBase) : Ctl → Tracker
  | .a => b.trackerA
  | .b => b.trackerB

def TimeBase.setTracker (b : TimeBase) (c : Ctl) (k : Tracker) : TimeBase :=
  match c with
  | .a => { b with trackerA := k }
  | .b => { b with trackerB := k }

/-! ### Rewriting the state -/

def State.setPos (p : Pos) (x : Position) (s : State) : State := { s with roster := s.roster.put p x }
def State.setLane (p : Pos) (l : Lane) (s : State) : State := { s with lanes := s.lanes.put p l }
def State.setSource (i : Fin 16) (e : Source) (s : State) : State := { s with sources := s.sources.put i e }
def State.setTime (b : TimeBase) (s : State) : State := { s with time := b }
def State.setSched (c : Schedule) (s : State) : State := { s with sched := c }
def State.setScale (c : Scale) (s : State) : State := { s with scale := c }
def State.setRehearsal (r : Rehearsal) (s : State) : State := { s with rehearsal := r }
def State.setLoader (l : Loader) (s : State) : State := { s with loader := l }
def State.setRules (r : RuleStore) (s : State) : State := { s with rules := r }
def State.setPins (p : Pins) (s : State) : State := { s with pins := p }
def State.setSettings (c : Settings) (s : State) : State := { s with settings := c }
def State.setLabels (l : Labels) (s : State) : State := { s with labels := l }
def State.setStore (c : Store) (s : State) : State := { s with store := c }
def State.setZones (z : Tab Int 16) (s : State) : State := { s with zones := z }
def State.setRoster (r : Tab Position 12) (s : State) : State := { s with roster := r }
def State.setLanes (l : Tab Lane 12) (s : State) : State := { s with lanes := l }
def State.setSources (l : Tab Source 16) (s : State) : State := { s with sources := l }
def State.setBus (b : Shown) (s : State) : State := { s with bus := b }

/-- A new event begins: what it queues joins later than all before it (R171). -/
def State.nextMoment (s : State) : State := { s with moment := s.moment + 1 }

/-! ### Lists -/

/-- `x` placed before the first member it does not come after. -/
def insertBy {α : Type} (le : α → α → Bool) (x : α) : List α → List α
  | [] => [x]
  | y :: ys => if le x y then x :: y :: ys else y :: insertBy le x ys

/-- The list in the order `le`, members that stand level in the order they had. -/
def sortBy {α : Type} (le : α → α → Bool) (l : List α) : List α := l.foldr (insertBy le) []

/-- The members without their later repeats. -/
def dedupBy {α : Type} (same : α → α → Bool) : List α → List α
  | [] => []
  | x :: xs => x :: (dedupBy same xs).filter (fun y => !same x y)

/-- The last `n` members. -/
def lastN {α : Type} (n : Nat) (l : List α) : List α := l.drop (l.length - n)

/-! ### Byte order (00, Multi-byte numbers: most significant byte first) -/

/-- The low `n` bytes of a number, most significant first. -/
def beBytes : Nat → Nat → List Byte
  | 0, _ => []
  | n + 1, v => BitVec.ofNat 8 (v / 256 ^ n) :: beBytes n v

/-- The number that bytes spell, most significant first. -/
def beNat (l : List Byte) : Nat := l.foldl (fun a b => a * 256 + b.toNat) 0

/-- Two's complement in 16 bits. -/
def signed16 (i : Int) : List Byte := beBytes 2 (i % 65536).toNat

/-- A time field: five bytes, 0 where unknown or absent (R184). -/
def timeBytes (t : Option Nat) : List Byte := beBytes 5 (t.getD 0)

/-- A flag in bit `k`. -/
def flagAt (k : Nat) (b : Bool) : Nat := if b then 2 ^ k else 0

/-- One byte. -/
def oneByte (v : Nat) : List Byte := [BitVec.ofNat 8 v]

/-! ### Changes and records -/

/-- R53: same kind and key. -/
def Change.sameKey : Change → Change → Bool
  | .leap k e, .leap k' e' => decide (k = k') && e == e'
  | .baseline x, .baseline y => x == y
  | .shift z _ _, .shift z' _ _ => z == z'
  | _, _ => false

def Change.isLeap : Change → Bool
  | .leap _ _ => true
  | _ => false

def Change.isBaseline : Change → Bool
  | .baseline _ => true
  | _ => false

def Change.isShift : Change → Bool
  | .shift _ _ _ => true
  | _ => false

/-- R18: the affected second of a leap of effective day `e` on offset `d`. -/
def leapAffected (k : LeapKind) (e d : Nat) : Nat :=
  match k with
  | .insert => Config.dayLength * e + d
  | .delete => Config.dayLength * e + d - 1

/-- R18: the instant of a change from its affected second. -/
def instantOf (c : Change) (a : Nat) : Nat :=
  match c with
  | .leap .insert _ => a + 1
  | _ => a

/-- R18: the offset after a leap on offset `d`. -/
def leapOffset (k : LeapKind) (d : Nat) : Nat :=
  match k with
  | .insert => d + 1
  | .delete => d - 1

/-- R22: a leap keeps `d` within 0 to 255. -/
def leapInRange (k : LeapKind) (d : Nat) : Bool :=
  match k with
  | .insert => decide (d < 255)
  | .delete => decide (0 < d)

/-- R53: the class of a record: true for SCALE. -/
def Record.isScale (r : Record) : Bool := !r.change.isShift

/-- R56: the second key of the schedule order: scale class before zone class, then zone or id. -/
def Record.orderKey (r : Record) : Nat × Nat :=
  match r.change with
  | .shift z _ _ => (1, z)
  | _ => (0, r.id)

/-- R56: schedule order. -/
def Record.before (a b : Record) : Bool :=
  let level := decide (a.orderKey.1 < b.orderKey.1) ||
    (a.orderKey.1 == b.orderKey.1 && decide (a.orderKey.2 ≤ b.orderKey.2))
  match a.affected, b.affected with
  | some x, some y => decide (x < y) || (x == y && level)
  | some _, none => true
  | none, some _ => false
  | none, none => level

/-! ### Notice boards -/

/-- R171: the kind code of a notice; an offer counts as 0x54 (R173). -/
def Notice.code : Notice → Nat
  | .armed _ => 0x50
  | .withdrawn _ _ _ => 0x51
  | .applied _ _ _ _ _ _ => 0x52
  | .missed _ _ _ _ => 0x53
  | .offer => 0x54
  | .slotState _ _ => 0x58
  | .sourceState _ _ _ => 0x59
  | .contest _ _ _ _ => 0x5A
  | .scheduleFull _ _ => 0x5B
  | .timeSlip _ => 0x5C
  | .leadChanged _ => 0x5D
  | .rulesetTimeout _ _ => 0x60
  | .rehearsalResult _ _ _ => 0x61

/-- R171: the subject of a notice's key. -/
def Notice.subject : Notice → Nat
  | .armed r => r.id
  | .withdrawn id _ _ => id
  | .missed id _ _ _ => id
  | .slotState p _ => p.val
  | .sourceState i _ _ => i.val
  | .contest id _ _ _ => id
  | _ => 0

/-- R171: the class of a notice: 0 service, 1 roster and source, 2 change. -/
def Notice.rank (n : Notice) : Nat :=
  if n.code < 0x58 then 2 else if n.code < 0x5C then 1 else 0

def Notice.isOffer : Notice → Bool
  | .offer => true
  | _ => false

/-- R172: a pending ARMED for record `id`. -/
def Notice.armsRecord (id : Nat) : Notice → Bool
  | .armed r => r.id == id
  | _ => false

def Notice.isArmed : Notice → Bool
  | .armed _ => true
  | _ => false

/-- R171: same kind and subject. -/
def Notice.sameKey (a b : Notice) : Bool := a.code == b.code && a.subject == b.subject

/-- R93, R96: a newer APPLIED keeps the pending one's first generation, but for that of a CLEAR_SCALE. -/
def Notice.over (new old : Notice) : Notice :=
  match new, old with
  | .applied _ l tag r n false, .applied f _ _ _ _ _ => .applied f l tag r n false
  | _, _ => new

/-- R173: the order of a board: by moment of joining, then kind, then subject. -/
def BoardEntry.before (a b : BoardEntry) : Bool :=
  decide (a.joined < b.joined) ||
    (a.joined == b.joined && (decide (a.notice.code < b.notice.code) ||
      (a.notice.code == b.notice.code && decide (a.notice.subject ≤ b.notice.subject))))

/-- The list without its first member that meets `f`. -/
def dropFirst {α : Type} (f : α → Bool) : List α → List α
  | [] => []
  | x :: xs => if f x then xs else x :: dropFirst f xs

/-- R171: an entry of class `k` that may be removed for room. -/
def BoardEntry.givesWay (k : Nat) (e : BoardEntry) : Bool := !e.notice.isOffer && e.notice.rank == k

/-- R171: a board over its room loses the oldest entry of the lowest class, never the offer. Of entries that joined in
one moment the first in the order of R173 goes (log 44). -/
def trimBoard (b : List BoardEntry) : List BoardEntry :=
  if b.length ≤ Config.boardRoom then b
  else if b.any (BoardEntry.givesWay 0) then dropFirst (BoardEntry.givesWay 0) b
  else if b.any (BoardEntry.givesWay 1) then dropFirst (BoardEntry.givesWay 1) b
  else dropFirst (BoardEntry.givesWay 2) b

/-- R172: the pending ARMED that a WITHDRAWN or MISSED removes. -/
def clearsArmed (n : Notice) (e : BoardEntry) : Bool :=
  match n with
  | .withdrawn id _ _ => e.notice.armsRecord id
  | .missed id _ _ _ => e.notice.armsRecord id
  | _ => false

/-- R171, R172: a notice queued to a board in moment `m`. -/
def queueOn (m : Nat) (n : Notice) (b : List BoardEntry) : List BoardEntry :=
  let b := b.filter (fun e => !clearsArmed n e)
  if b.any (fun e => n.sameKey e.notice) then
    b.map (fun e => if n.sameKey e.notice then { e with notice := n.over e.notice } else e)
  else trimBoard (insertBy BoardEntry.before ⟨m, n⟩ b)

/-- A lane whose board takes a notice. -/
def Lane.enqueue (m : Nat) (n : Notice) (l : Lane) : Lane := { l with board := queueOn m n l.board }

/-- A notice queued to the positions named by `who` that are not EMPTY (10, Notice boards). -/
def State.notifyWhere (who : Pos → Bool) (n : Notice) (s : State) : State :=
  { s with lanes := .build 12 fun p =>
      if who p && s.occupied p then (s.lane p).enqueue s.moment n else s.lane p }

/-- A notice queued to every position that is not EMPTY. -/
def State.notifyAll (n : Notice) (s : State) : State := s.notifyWhere (fun _ => true) n

/-- A notice queued to each controller position that is not EMPTY. -/
def State.notifyControllers (n : Notice) (s : State) : State := s.notifyWhere (fun p => decide (p.val < 2)) n

/-- A notice queued to one position, if it is not EMPTY. -/
def State.notifyOne (q : Pos) (n : Notice) (s : State) : State := s.notifyWhere (fun p => decide (p = q)) n

/-- R172: the entries that meet `f` leave every board. -/
def State.clearBoards (f : Notice → Bool) (s : State) : State :=
  { s with lanes := s.lanes.map fun l => { l with board := l.board.filter (fun e => !f e.notice) } }

end Sys2Proof.Machine
end

