-- ==== Sys2Proof/Machine/Views.lean ====
section
/-! DEFINITION. Instants, effective days and effective views: R18 to R22 and R46. -/

namespace Sys2Proof.Machine

/-- R46: a view as the Change Schedule reads it: an offset and, unless NONE, a kind and an effective day. -/
structure EffView where
  ds : Nat
  leap : Option (LeapKind × Nat)
deriving DecidableEq, Repr

/-- R46: the source instant of a leap view. -/
def sourceInstant (ds : Nat) (l : LeapView) : Nat :=
  match l.kind with
  | .insert => Config.dayLength * l.day + ds + 1
  | .delete => Config.dayLength * l.day + ds - 1

/-- R46: a view is spent when T is known and its source instant is at or before T. -/
def View.spent (t : Option Nat) (v : View) : Bool :=
  match t, v.leap with
  | some t, some l => decide (sourceInstant v.ds l ≤ t)
  | _, _ => false

/-- R46: the effective view. -/
def View.effective (t : Option Nat) (v : View) : EffView :=
  match v.leap with
  | none => ⟨v.ds, none⟩
  | some l => if v.spent t then ⟨leapOffset l.kind v.ds, none⟩ else ⟨v.ds, some (l.kind, l.day)⟩

/-- R20: the effective day of a supplied instant `i` on the source's offset `ds`. -/
def suppliedDay (k : LeapKind) (ds i : Nat) : Option Nat :=
  let u : Int := match k with
    | .insert => (i : Int) - 1 - ds
    | .delete => (i : Int) + 1 - ds
  let e := u / 86400
  if u % 86400 = 0 && decide (1 ≤ e) && decide (e ≤ Config.maxDay) then some e.toNat else none

/-- R21: the effective day inferred in second `t` on the source's offset `ds`. -/
def inferredDay (ds t : Nat) : Option Nat :=
  let e : Int := ((t : Int) - ds) / 86400 + 1
  if decide (1 ≤ e) && decide (e ≤ Config.maxDay) then some e.toNat else none

/-- The spent flag of a source entry's vouched view (R51). -/
def Source.spent (t : Option Nat) (e : Source) : Bool :=
  match e.vouched with
  | some v => v.spent t
  | none => false

/-- The effective view of a source entry, if it holds a vouched view. -/
def Source.effective (t : Option Nat) (e : Source) : Option EffView := e.vouched.map (View.effective t)

end Sys2Proof.Machine
end

