-- ==== Sys2Proof/Machine/Schedule.lean ====
section
/-! DEFINITION. The Change Schedule: records, ids, withdrawal and the tally (R53 to R78). -/

namespace Sys2Proof.Machine

/-! ### Records -/

/-- R54: the id after `c`. -/
def nextId (c : Nat) : Nat := if c < 255 then c + 1 else 1

/-- R54: the first id after `c` that is not in use, over at most `fuel` ids. -/
def freeId (used : List Nat) : Nat → Nat → Nat
  | 0, c => nextId c
  | fuel + 1, c => if used.contains (nextId c) then freeId used fuel (nextId c) else nextId c

/-- R56: the schedule with its records in schedule order. -/
def State.setRecords (rs : List Record) (s : State) : State :=
  { s with sched := { s.sched with records := sortBy Record.before rs } }

def State.findRecord (s : State) (id : Nat) : Option Record := s.records.find? (fun r => r.id == id)

/-- The record `id` rewritten by `f`. -/
def State.updateRecord (id : Nat) (f : Record → Record) (s : State) : State :=
  s.setRecords (s.records.map fun r => if r.id == id then f r else r)

/-- R54: the id the next record takes. -/
def State.newId (s : State) : Nat := freeId (s.records.map Record.id) 255 s.sched.cursor

/-- A record joins the schedule under a new id (R54, R62, R132, R135). -/
def State.place (c : Change) (affected : Option Nat) (origin : RecordOrigin) (st : RecordState)
    (ref : Option (Nat × Nat)) (s : State) : State :=
  let r : Record :=
    { id := s.newId, change := c, affected := affected, origin := origin, state := st, preContest := none,
      vouch := 0, oppose := 0, restored := false, late := false, tag := none, window := none,
      created := s.time.t, ref := ref, roll := none }
  { (s.setRecords (r :: s.records)) with
    sched := { (s.setRecords (r :: s.records)).sched with cursor := s.newId } }

/-- R88: an armed group without an ARMED record dissolves, which frees its tag. -/
def State.dissolveEmpty (s : State) : State :=
  let live := s.scale.groups.filter fun g => s.records.any fun r => r.state == .armed && r.tag == some g.tag
  { s with scale := { s.scale with groups := live } }

/-- R65: the reasons whose withdrawal lists a SOURCES record. -/
def Reason.lists : Reason → Bool
  | .request | .opposed | .range | .replaced => true
  | _ => false

/-- R65: a change joins the withdrawn list as the newest item (log 47 for several of one event). -/
def State.listWithdrawn (c : Change) (why : Reason) (s : State) : State :=
  let others := s.sched.listed.filter fun x => !x.change.sameKey c
  { s with sched := { s.sched with listed := lastN Config.listRoom (others ++ [⟨c, why, s.time.t⟩]) } }

/-- R71: a record is withdrawn: it leaves the schedule (and its armed group), its change is listed where the
reason requires it, and WITHDRAWN is queued. -/
def State.withdraw (r : Record) (why : Reason) (s : State) : State :=
  let s := s.setRecords (s.records.filter fun x => !(x.id == r.id))
  let s := if r.origin = .sources && why.lists then s.listWithdrawn r.change why else s
  let s := if r.state = .armed then s.dissolveEmpty else s
  let n := Notice.withdrawn r.id r.change why
  if r.state = .armed then s.notifyAll n else s.notifyControllers n

/-! ### Counts of a tally -/

/-- R58: an entry that counts in a tally: VOUCHING, with a weight above 0. -/
structure Voter where
  origin : SourceOrigin
  weight : Nat
  view : EffView
  marked : Bool
deriving DecidableEq, Repr

/-- R61: the weight of an origin. -/
def State.weight (s : State) : SourceOrigin → Nat
  | .network => s.value Config.weightNetwork
  | .satellite => s.value Config.weightSatellite
  | .operator => s.value Config.weightOperator

/-- R58: what entry `i` brings into a tally. -/
def State.voter (s : State) (i : Fin 16) : Option Voter :=
  let e := s.source i
  match e.state, e.key, e.effective s.time.t with
  | .vouching, some k, some v =>
    if s.weight k.origin = 0 then none
    else some ⟨k.origin, s.weight k.origin, v, s.sched.marks.get i⟩
  | _, _, _ => none

def State.voters (s : State) : List Voter := allEntries.filterMap s.voter

/-- R58, R60: the voter is a vouch for the change, on device offset `d`. -/
def Voter.backs (d : Option Nat) (c : Change) (v : Voter) : Bool :=
  match c with
  | .leap k e => d.isSome && decide (v.view.leap = some (k, e))
  | .baseline x => v.view.ds == x && !v.marked && decide (d ≠ some v.view.ds)
  | .shift _ _ _ => false

/-- R58: the voter agrees with the device and hears of no change. -/
def Voter.agrees (d : Option Nat) (v : Voter) : Bool := decide (d = some v.view.ds) && v.view.leap.isNone

/-- The sum of the weights of the voters that meet `f`. -/
def weightOf (f : Voter → Bool) (vs : List Voter) : Nat := ((vs.filter f).map Voter.weight).sum

/-- R58: the vouch tally of a change. -/
def vouchTally (vs : List Voter) (d : Option Nat) (c : Change) : Nat := weightOf (Voter.backs d c) vs

/-- R59: a record of affected second `a` lies within the horizon `h`. -/
def withinHorizon (t : Option Nat) (h a : Nat) : Bool :=
  match t with
  | some t => decide (a ≤ t + h)
  | none => false

/-- R59: the opposition tally of a record. -/
def State.opposition (s : State) (vs : List Voter) (r : Record) : Nat :=
  match r.change, r.affected with
  | .leap _ _, some a =>
    if r.state ≠ .settling && withinHorizon s.time.t (s.value Config.horizon) a
    then weightOf (Voter.agrees s.scale.d) vs else 0
  | _, _ => 0

/-- R58: the changes a voter names. -/
def Voter.names (d : Option Nat) (v : Voter) : List Change :=
  (match d, v.view.leap with
    | some _, some (k, e) => [Change.leap k e]
    | _, _ => []) ++
  (if v.marked || decide (d = some v.view.ds) then [] else [Change.baseline v.view.ds])

/-! ### The steps of a tally -/

/-- R58, R59: the counts are written into the records, and the agreement tally is taken. -/
def State.tallyCounts (vs : List Voter) (s : State) : State :=
  let rs := s.records.map fun r =>
    { r with vouch := vouchTally vs s.scale.d r.change, oppose := s.opposition vs r }
  { (s.setRecords rs) with
    sched := { (s.setRecords rs).sched with agreement := weightOf (Voter.agrees s.scale.d) vs } }

/-- R76: an agreement tally at quorum grants the clearing of the provisional flag. -/
def State.tallyAgreement (s : State) : State :=
  if s.scale.d.isSome && s.scale.provisional && decide (s.value Config.quorum ≤ s.sched.agreement)
  then { s with scale := { s.scale with confirmPending := true } } else s

/-- R64: a BASELINE that D has met. -/
def Record.isMet (d : Option Nat) (r : Record) : Bool :=
  match r.change with
  | .baseline x => decide (d = some x) &&
      (r.state == .heard || r.state == .contested || r.state == .qualified || r.state == .held)
  | _ => false

/-- R64: a record that lapses. -/
def Record.lapses (r : Record) : Bool :=
  r.origin == .sources && (r.state == .heard || r.state == .contested) && r.vouch == 0

/-- R64: lapse and MET; a BASELINE that both hold for is withdrawn MET (log 8). DESIGN CHOICE (unsafe): R64 does not order
several withdrawals of one tally; they go in schedule order, LAPSED and MET mixed (log 63). -/
def State.tallyLapse (s : State) : State :=
  s.records.foldl (fun s r =>
    if r.isMet s.scale.d then s.withdraw r .met
    else if r.lapses then s.withdraw r .lapsed else s) s

/-- R65: an item leaves the withdrawn list when no voter backs its change, or D equals its target (log 9). -/
def State.tallyPurge (vs : List Voter) (s : State) : State :=
  let stays : Listed → Bool := fun x =>
    decide (0 < vouchTally vs s.scale.d x.change) &&
      (match x.change with
        | .baseline b => decide (s.scale.d ≠ some b)
        | _ => true)
  { s with sched := { s.sched with listed := s.sched.listed.filter stays } }

/-- R62: the order in which newcomers are placed. -/
def newcomerBefore (a b : Refused) : Bool :=
  let key : Change → Nat × Nat × Nat := fun c => match c with
    | .leap .insert e => (0, e, 0)
    | .leap .delete e => (0, e, 1)
    | .baseline x => (1, x, 0)
    | .shift z _ _ => (2, z, 0)
  let x := key a.change
  let y := key b.change
  decide (b.vouch < a.vouch) || (a.vouch == b.vouch &&
    (decide (x.1 < y.1) || (x.1 == y.1 &&
      (decide (x.2.1 < y.2.1) || (x.2.1 == y.2.1 && decide (x.2.2 ≤ y.2.2))))))

/-- R62: the newcomers of a tally that are placed where there is room, in the order they are placed. A change on the
withdrawn list is not placed (R65). -/
def State.newcomers (vs : List Voter) (s : State) : List Refused :=
  let named := dedupBy Change.sameKey (vs.flatMap (Voter.names s.scale.d))
  let fresh := named.filter fun c =>
    !(s.records.any fun r => r.change.sameKey c) && !(s.sched.listed.any fun x => x.change.sameKey c)
  sortBy newcomerBefore (fresh.map fun c => ⟨c, vouchTally vs s.scale.d c⟩)

/-- R62: of two HEARD records, the one displaced first: lower tally, earlier creation, lower id. -/
def Record.yieldsBefore (a b : Record) : Bool :=
  let byId := decide (a.id ≤ b.id)
  let byAge := match a.created, b.created with
    | none, none => byId
    | none, some _ => true
    | some _, none => false
    | some x, some y => decide (x < y) || (x == y && byId)
  decide (a.vouch < b.vouch) || (a.vouch == b.vouch && byAge)

/-- R62, R75: the record that makes room, among the HEARD records that meet `f`. -/
def State.yielding (f : Record → Bool) (s : State) : Option Record :=
  (sortBy Record.yieldsBefore (s.records.filter fun r => r.isScale && r.state == .heard && f r)).head?

/-- R55: how many records the scale class holds. -/
def State.scaleCount (s : State) : Nat := (s.records.filter Record.isScale).length

/-- R18: the affected second a new record of a change takes. -/
def State.affectedOf (s : State) : Change → Option Nat
  | .leap k e => s.scale.d.map (leapAffected k e)
  | .baseline _ => none
  | .shift _ _ i => some i

/-- R62: a newcomer placed in state HEARD with its tallies of the pass. -/
def State.placeNewcomer (vs : List Voter) (n : Refused) (s : State) : State :=
  let s' := s.place n.change (s.affectedOf n.change) .sources .heard none
  s'.updateRecord s.newId fun r => { r with vouch := n.vouch, oppose := s'.opposition vs { r with vouch := n.vouch } }

/-- R62: one newcomer; none when there is no room for it. -/
def State.tryNewcomer (vs : List Voter) (n : Refused) (s : State) : Option State :=
  if s.scaleCount < Config.scaleRoom then some (s.placeNewcomer vs n)
  else match s.yielding fun r => decide (r.vouch < n.vouch) with
    | some r => some ((s.withdraw r .displaced).placeNewcomer vs n)
    | none => none

/-- R62: newcomers placed one at a time, with the first that failed. -/
def placeAll (vs : List Voter) : List Refused → State × Option Refused → State × Option Refused
  | [], a => a
  | n :: ns, (s, failed) =>
    match s.tryNewcomer vs n with
    | some s' => placeAll vs ns (s', failed)
    | none => placeAll vs ns (s, if failed.isSome then failed else some n)

/-- R62, R65: a change without a record is held back by the withdrawn list. After the purge of the list every item is
vouched for, so such a change is a newcomer that is not placed (log 10). -/
def State.holdsBack (s : State) : Bool :=
  s.sched.listed.any fun x => !(s.records.any fun r => r.change.sameKey x.change)

/-- R63: the refused change after a pass whose first failed newcomer is `failed`; it is cleared where every newcomer
was placed, none of them `held` back by the withdrawn list. -/
def State.setRefused (held : Bool) (failed : Option Refused) (s : State) : State :=
  match failed with
  | none => if held then s else { s with sched := { s.sched with refused := none } }
  | some n =>
    let again := match s.sched.refused with
      | some o => o.change.sameKey n.change
      | none => false
    let s' := { s with sched := { s.sched with refused := some n } }
    if again then s' else s'.notifyControllers (.scheduleFull n.change n.vouch)

/-- R62, R63: the newcomers of a tally, fixed before the first is placed: the change of a record displaced in the pass
is met in the next tally (log 37). -/
def State.tallyNewcomers (vs : List Voter) (s : State) : State :=
  let (s', failed) := placeAll vs (s.newcomers vs) (s, none)
  s'.setRefused s.holdsBack failed

/-- R66: two records that cannot both be true. -/
def Record.rival (a b : Record) : Bool :=
  match a.change, b.change with
  | .leap k e, .leap k' e' => decide (k ≠ k') && e == e'
  | .baseline x, .baseline y => x != y
  | _, _ => false

/-- R66: a rival stands. -/
def Record.stands (q : Nat) (r : Record) : Bool :=
  match r.state with
  | .heard => decide (q ≤ r.vouch)
  | _ => true

/-- R66: the rivals that stand against a record. -/
def State.standing (s : State) (r : Record) : List Record :=
  s.records.filter fun x => r.rival x && x.stands (s.value Config.quorum)

/-- R66: the state a record takes when it qualifies. -/
def State.qualifiedState (s : State) (vs : List Voter) (r : Record) : RecordState :=
  match r.change with
  | .baseline _ =>
    if s.scale.d.isNone || vs.any (fun v => v.backs s.scale.d r.change && v.origin == .operator)
    then .qualified else .held
  | _ => .qualified

/-- R66: what becomes of a rival that stands when a record is contested. -/
def Record.contest (x : Record) : Record :=
  match x.state, x.origin with
  | .qualified, .sources => { x with state := .contested, preContest := some .qualified }
  | .held, .sources => { x with state := .contested, preContest := some .held }
  | .heard, _ => { x with state := .contested, preContest := some .heard }
  | _, _ => x

/-- R66: a HEARD record at quorum is judged. -/
def State.judge (vs : List Voter) (id : Nat) (s : State) : State :=
  match s.findRecord id with
  | none => s
  | some r =>
    if r.state = .heard && decide (s.value Config.quorum ≤ r.vouch) then
      let against := (s.standing r).map Record.id
      if against.isEmpty then s.updateRecord id fun r => { r with state := s.qualifiedState vs r }
      else s.setRecords (s.records.map fun x =>
        if x.id == id || against.contains x.id then x.contest else x)
    else s

/-- R69: CONTEST for a record, with the lowest id that stands against it. -/
def State.noteContest (s : State) (r : Record) : State :=
  let ids := (s.standing r).map Record.id
  s.notifyControllers (.contest r.id r.change r.vouch (ids.foldl min (ids.headD 0)))

/-- R66, R69: every HEARD record at quorum is judged, and CONTEST is queued for each that enters CONTESTED. DESIGN CHOICE
(unsafe): R69 does not order several CONTESTs of one tally; they join in schedule order, after every record has been judged
(log 62). -/
def State.tallyQualify (vs : List Voter) (s : State) : State :=
  let s' := (s.records.map Record.id).foldl (fun a id => a.judge vs id) s
  let was := (s.records.filter fun r => r.state == .contested).map Record.id
  (s'.records.filter fun r => r.state == .contested && !was.contains r.id).foldl State.noteContest s'

/-- R70: opposition at quorum withdraws a QUALIFIED or CONTESTED leap. DESIGN CHOICE (unsafe): several of one tally are
withdrawn, and their WITHDRAWN notices join, in schedule order (log 47). -/
def State.tallyOppose (s : State) : State :=
  s.records.foldl (fun a r =>
    if r.change.isLeap && (r.state == .qualified || r.state == .contested) &&
      decide (a.value Config.quorum ≤ r.oppose) then a.withdraw r .opposed else a) s

/-- R68: a CONTESTED record without a standing rival returns to its pre-contest state. -/
def State.tallyRelease (vs : List Voter) (s : State) : State :=
  let free := (s.records.filter fun r => r.state == .contested && (s.standing r).isEmpty).map Record.id
  let s' := s.setRecords (s.records.map fun r =>
    if free.contains r.id then { r with state := r.preContest.getD .heard, preContest := none } else r)
  free.foldl (fun a id => a.judge vs id) s'

/-- R57: the tally, one pass taken as a whole. -/
def State.tally (s : State) : State :=
  let vs := s.voters
  ((((((s.tallyCounts vs).tallyAgreement.tallyLapse.tallyPurge vs).tallyNewcomers vs).tallyQualify
    vs).tallyOppose).tallyRelease vs)

/-! ### When D changes -/

/-- R60: the trailing marks that a change of D from `old` sets. -/
def State.markTrailing (old : Nat) (s : State) : State :=
  let reads : Fin 16 → Bool := fun i => decide (((s.source i).effective s.time.t).map EffView.ds = some old)
  { s with sched := { s.sched with marks := .build 16 fun i => s.sched.marks.get i || reads i } }

/-- R19: an unarmed leap record reckoned on offset `d`. -/
def Record.reckon (d : Nat) (r : Record) : Record :=
  match r.change with
  | .leap k e => if r.state = .armed || r.state = .settling then r else { r with affected := some (leapAffected k e d) }
  | _ => r

/-- R19, R60, R77: D takes a known value. -/
def State.setD (d : Nat) (s : State) : State :=
  let s' := match s.scale.d with
    | some old => if old = d then s else s.markTrailing old
    | none => s
  let s' := { s' with scale := { s'.scale with d := some d } }
  s'.setRecords (s'.records.map (Record.reckon d))

/-- R134: the transition behind a record is marked skipped. -/
def State.markSkipped (r : Record) (s : State) : State :=
  match r.origin, r.ref with
  | .ruleset, some (z, i) =>
    let mark : Transition → Transition := fun x =>
      if x.zone == z && x.instant == i then { x with skipped := true } else x
    { s with rules := { s.rules with transitions := s.rules.transitions.map mark } }
  | _, _ => s

end Sys2Proof.Machine
end

