-- ==== Sys2Proof/Machine/Replies.lean ====
section
/-! DEFINITION. What an owner's verdict on a request is, before the Bus Interface owes it as a response, and the
codes that payloads use (R167, R184). -/

namespace Sys2Proof.Machine

/-- A verdict: the response code, its content, and whether it is withheld (R142). -/
structure Reply where
  code : Code
  content : List Byte := []
  withheld : Bool := false
deriving DecidableEq, Repr

/-- R167: the numbers of the response codes. -/
def Code.number : Code → Nat
  | .accepted => 0
  | .notPermitted => 1
  | .badForm => 2
  | .outOfRange => 3
  | .unset => 4
  | .busy => 5
  | .notFound => 6
  | .wrongState => 7
  | .tableFull => 8
  | .tooLate => 9
  | .overrun => 10
  | .short => 11
  | .checkFailed => 12
  | .badContent => 13
  | .unknownKind => 14
  | .scheduleFull => 15

/-- A refusal: the state as it stood, and the code (R167). -/
def refuse (s : State) (c : Code) : State × Reply := (s, { code := c })

/-- An acceptance with its content. -/
def accept (s : State) (content : List Byte := []) : State × Reply := (s, { code := .accepted, content := content })

/-- R184: origins of announcements. -/
def SourceOrigin.number : SourceOrigin → Nat
  | .network => 0
  | .satellite => 1
  | .operator => 2

/-- R35, R184: the origin a code names. -/
def originOf (c : Byte) : Option SourceOrigin :=
  if c = 0 then some .network else if c = 1 then some .satellite else if c = 2 then some .operator else none

/-- R184: source states. -/
def SourceState.number : SourceState → Nat
  | .free => 0
  | .listening => 1
  | .vouching => 2
  | .stale => 3
  | .muted => 4

/-- R184: record kinds. -/
def Change.kindNumber : Change → Nat
  | .leap .insert _ => 0
  | .leap .delete _ => 1
  | .baseline _ => 2
  | .shift _ _ _ => 3

/-- R188: the key of a change in three bytes (log 17). -/
def Change.keyBytes : Change → List Byte
  | .leap _ e => beBytes 3 e
  | .baseline x => beBytes 3 x
  | .shift z _ _ => beBytes 3 z

/-- R184: record states. -/
def RecordState.number : RecordState → Nat
  | .heard => 0
  | .contested => 1
  | .qualified => 2
  | .held => 3
  | .armed => 4
  | .settling => 5

/-- R184: record origins. -/
def RecordOrigin.number : RecordOrigin → Nat
  | .sources => 0
  | .operator => 1
  | .ruleset => 2

/-- R184: withdrawal reasons. -/
def Reason.number : Reason → Nat
  | .lapsed => 0
  | .met => 1
  | .displaced => 2
  | .opposed => 3
  | .request => 4
  | .replaced => 5
  | .range => 6

/-- R184: roster states. -/
def PosState.number : PosState → Nat
  | .empty => 0
  | .joining => 1
  | .inStep => 2
  | .lagging => 3
  | .dropped => 4

/-- R155, R184: intents. -/
def Intent.number : Intent → Nat
  | .idle => 15
  | .present => 1
  | .following => 2

/-- R155, R184: roles. -/
def Role.number : Role → Nat
  | .none => 0
  | .standby => 1
  | .lead => 2

/-- R150, R184: tracker modes. -/
def TrackerMode.number : TrackerMode → Nat
  | .seeking => 1
  | .aligned => 2
  | .flywheel => 3

/-- R150, R184: the lead holder. -/
def holderNumber : Option Ctl → Nat
  | none => 0
  | some .a => 1
  | some .b => 2

/-- R184: delivery modes. -/
def Delivery.number : Delivery → Nat
  | .step => 0
  | .smear => 1

/-- R184: rehearsal phases. -/
def Phase.number : Phase → Nat
  | .none => 0
  | .pending => 1
  | .armed => 2
  | .called => 3

/-- R184: roll-call results; 3 where absent. -/
def rollNumber : Option RollMark → Nat
  | some .ready => 0
  | some .notReady => 1
  | some .notCounted => 2
  | none => 3

/-- R184: history kinds. -/
def HistoryKind.number : HistoryKind → Nat
  | .insert => 0
  | .delete => 1
  | .baseline => 2
  | .shift => 3
  | .clear => 4

end Sys2Proof.Machine
end

