-- ==== Sys2Proof/Machine/Flags.lean ====
section
/-! DEFINITION. What is read off the state: the scale status (R3), the armed groups and the next one (R26), the
tag pool (R88), READY (R112), a roll call's reading (R90) and the offer a position needs (R113). -/

namespace Sys2Proof.Machine

/-- R3: the scale statuses. -/
inductive Status where
  | unset
  | timed
  | scaled
deriving DecidableEq, Repr

/-- R3: the scale status. -/
def State.status (s : State) : Status :=
  match s.time.t, s.scale.d with
  | none, _ => .unset
  | some _, none => .timed
  | some _, some _ => .scaled

/-- R149: the codes of the status field. -/
def Status.number : Status → Nat
  | .unset => 0
  | .timed => 1
  | .scaled => 2

/-! ### Armed groups -/

/-- R88: the rehearsal holds a tag. -/
def Rehearsal.isArmed (r : Rehearsal) : Bool := r.phase == .armed || r.phase == .called

/-- 07: a rehearsal is running. -/
def Rehearsal.running (r : Rehearsal) : Bool := r.phase != .none

/-- R88: the tags that armed groups hold, the rehearsal group's included. -/
def State.heldTags (s : State) : List Nat :=
  s.scale.groups.map Group.tag ++ (if s.rehearsal.isArmed then s.rehearsal.tag.toList else [])

/-- The tags of the pool. -/
def allTags : List Nat := [1, 2, 3, 4, 5, 6, 7, 8, 9, 10, 11, 12, 13, 14, 15]

/-- R86, R88: the lowest free tag. -/
def State.freeTag (s : State) : Option Nat := allTags.find? fun k => !s.heldTags.contains k

/-- R90: the ARMED records of a group. -/
def State.members (s : State) (tag : Nat) : List Record :=
  s.records.filter fun r => r.state == .armed && r.tag == some tag

/-- R26: what the scale word and READY read of an armed group. -/
structure NextGroup where
  affected : Nat
  tag : Nat
  rehearsal : Bool
deriving DecidableEq, Repr

/-- R26: every armed group, the rehearsal group included. -/
def State.armedGroups (s : State) : List NextGroup :=
  s.scale.groups.map (fun g => ⟨g.affected, g.tag, false⟩) ++
  (match s.rehearsal.isArmed, s.rehearsal.affected, s.rehearsal.tag with
    | true, some a, some k => [⟨a, k, true⟩]
    | _, _, _ => [])

/-- R26: the armed group with the lowest affected second. -/
def State.nextGroup (s : State) : Option NextGroup :=
  (sortBy (fun a b => decide (a.affected ≤ b.affected)) s.armedGroups).head?

/-- R26: the kinds present among a group's records. -/
def State.kindsOf (s : State) (tag : Nat) : GroupKinds :=
  let m := s.members tag
  { insert := m.any fun r => r.change.kindNumber == 0
    delete := m.any fun r => r.change.kindNumber == 1
    baseline := m.any fun r => r.change.kindNumber == 2
    shift := m.any fun r => r.change.kindNumber == 3 }

/-- R112: a position is READY. -/
def State.isReady (s : State) (p : Pos) : Bool :=
  match s.nextGroup with
  | some g => (s.pos p).state == .inStep && (s.pos p).ready == g.tag && g.tag != 0
  | none => false

/-! ### Roll call -/

/-- R90, R123: what a roll call for `tag` finds at a position. -/
def Position.rollMark (tag : Nat) (x : Position) : RollMark :=
  match x.state with
  | .empty => .notCounted
  | .inStep => if x.ready = tag then .ready else .notReady
  | _ => .notReady

def Roll.ready (r : Roll) : Nat := (r.items.filter fun m => m == .ready).length
def Roll.notReady (r : Roll) : Nat := (r.items.filter fun m => m == .notReady).length

/-- R93: the counts of a roll call, 0 and 0 where none was taken. -/
def rollCounts : Option Roll → Nat × Nat
  | some r => (Roll.ready r, Roll.notReady r)
  | none => (0, 0)

/-! ### Settings by name -/

/-- R27: the lead of the nominal window. -/
def State.windowLead (s : State) : Nat :=
  if s.value Config.placement = 0 then s.value Config.smearWindow else s.value Config.smearWindow / 2

/-- R2: the T the next boundary brings when no SET_TIME is pending. -/
def nextT (t : Nat) : Nat := if t < Config.maxT then t + 1 else t

/-! ### Offers -/

/-- R113: a held generation is ahead of G. -/
def isAhead (g8 h : Byte) : Bool := decide (128 < (g8 - h).toNat)

/-- R113: the history entry a CATCH_UP for held generation `h` carries. -/
def State.catchUpEntry (s : State) (h : Byte) : Option HistoryEntry :=
  if isAhead s.g8 h then none
  else s.scale.history.find? fun e => decide (e.gen.setWidth 8 = h + 1)

/-- R113: a position needs an offer. -/
def State.needsOffer (s : State) (p : Pos) : Bool :=
  let x := s.pos p
  (x.state == .joining || x.state == .lagging) && decide (x.held ≠ some s.g8)

/-- R113, R114: a position's board keeps an offer. -/
def State.wantsOffer (s : State) (p : Pos) : Bool :=
  s.needsOffer p && decide ((s.pos p).cursor ≠ some ((s.pos p).held, s.scale.g))

/-- R113: the boards brought in line with the offers that are wanted. -/
def State.refreshOffers (s : State) : State :=
  { s with lanes := .build 12 fun p =>
      let l := s.lane p
      if s.wantsOffer p then
        if l.board.any (fun e => e.notice.isOffer) then l else l.enqueue s.moment .offer
      else { l with board := l.board.filter fun e => !e.notice.isOffer } }

end Sys2Proof.Machine
end

