-- ==== Sys2Proof/Machine/Notices.lean ====
section
/-! DEFINITION. Parcels that the device sends: notices, offers and responses as bytes (R164, R183, R184, R186,
R188). A field whose value is absent is sent as 0 (log 25). -/

namespace Sys2Proof.Machine

/-- R187, R188: one byte that carries a flag alone, in bit 0 (log 45). -/
def flagByte (b : Bool) : List Byte := oneByte (flagAt 0 b)

/-- R184: announced kinds. -/
def announcedNumber : Option LeapView → Nat
  | none => 0
  | some l => match l.kind with
    | .insert => 1
    | .delete => 2

/-- R164: a parcel. -/
def parcel (kind : Nat) (payload : List Byte) : List Byte := oneByte kind ++ oneByte payload.length ++ payload

/-! ### Payloads -/

/-- R187: the history entry in 23 bytes. -/
def HistoryEntry.bytes (e : HistoryEntry) : List Byte :=
  beBytes 2 e.gen.toNat ++ oneByte (e.kind.number + flagAt 3 e.dAfter.isSome) ++ oneByte (e.id.getD 0) ++
  timeBytes e.instant ++ timeBytes e.affected ++ oneByte (e.dAfter.getD 0) ++
  oneByte ((e.shift.map Prod.fst).getD 0) ++ signed16 ((e.shift.map Prod.snd).getD 0) ++ timeBytes e.applied

/-- R188: ARMED. An S_e beyond 2^40 − 1 is sent as its low 40 bits (log 49). -/
def ArmedReport.bytes (r : ArmedReport) : List Byte :=
  let kind := (r.change.map Change.kindNumber).getD 7
  let key := (r.change.map Change.keyBytes).getD (beBytes 3 0)
  oneByte r.id ++ oneByte (kind + flagAt 6 r.change.isNone + flagAt 5 r.late) ++ key ++ signed16 r.newValue ++
  beBytes 5 r.instant ++ beBytes 5 r.affected ++ oneByte r.tag ++ beBytes 5 r.start ++ beBytes 5 r.stop

/-- R188: SLOT_STATE. -/
def SlotReport.bytes (p : Pos) (r : SlotReport) : List Byte :=
  oneByte p.val ++ oneByte r.state.number ++ oneByte r.intent.number ++ [r.held.getD 0] ++ flagByte r.held.isSome ++
  oneByte r.ready ++ oneByte r.lag ++ oneByte (r.mode.number * 16 + r.zone.val)

/-- R188: SOURCE_STATE; a FREE entry carries its index alone. -/
def Source.bytes (i : Fin 16) (e : Source) (spent : Bool) : List Byte :=
  if e.state = .free then oneByte i.val ++ beBytes 17 0
  else
    let key := (e.key.map fun k => k.pos.val * 16 + k.origin.number).getD 0
    let leap := e.vouched.bind View.leap
    oneByte i.val ++ oneByte key ++ oneByte (e.state.number * 16 + e.run) ++
    oneByte (flagAt 7 e.vouched.isSome + announcedNumber leap * 32 +
      flagAt 4 ((leap.map LeapView.inferred).getD false) + flagAt 3 spent) ++
    oneByte ((e.vouched.map View.ds).getD 0) ++ beBytes 3 ((leap.map LeapView.day).getD 0) ++
    timeBytes e.lastHeard ++ timeBytes e.allocated

/-- R115, R188: RESYNC for position `p`, from the state in which its transfer begins. -/
def State.resyncBytes (s : State) (p : Pos) : List Byte :=
  let z := (s.pos p).zone
  beBytes 2 s.scale.g.toNat ++
  [Config.resyncFlags s.scale.d.isSome s.scale.provisional s.scale.inserting.isSome s.time.t.isSome] ++
  oneByte (s.scale.d.getD 0) ++ oneByte z.val ++ signed16 (s.zones.get z) ++ timeBytes s.time.t

/-- R113, R115: the offer for position `p`, settled from the state in which its transfer begins. -/
def State.offerParcel (s : State) (p : Pos) : List Byte :=
  match (s.pos p).held.bind s.catchUpEntry with
  | some e => parcel 0x54 (e.bytes ++ beBytes 2 s.scale.g.toNat)
  | none => parcel 0x55 (s.resyncBytes p)

/-- R188: the payload of a notice other than an offer. -/
def Notice.bytes : Notice → List Byte
  | .armed r => r.bytes
  | .withdrawn id c why => oneByte id ++ oneByte c.kindNumber ++ c.keyBytes ++ oneByte why.number
  | .applied f l tag a b _ => beBytes 2 f.toNat ++ beBytes 2 l.toNat ++ oneByte tag ++ oneByte a ++ oneByte b
  | .missed id c was a => oneByte id ++ oneByte (c.kindNumber + flagAt 7 was) ++ c.keyBytes ++ beBytes 5 a
  | .offer => []
  | .slotState p r => r.bytes p
  | .sourceState i e spent => e.bytes i spent
  | .contest id c v rival => oneByte id ++ oneByte c.kindNumber ++ c.keyBytes ++ oneByte v ++ oneByte rival
  | .scheduleFull c v => oneByte c.kindNumber ++ c.keyBytes ++ oneByte v
  | .timeSlip p => beBytes 2 p
  | .leadChanged h => oneByte (holderNumber h)
  | .rulesetTimeout serial pointer => beBytes 4 serial.toNat ++ beBytes 2 pointer
  | .rehearsalResult a b c => oneByte a ++ oneByte b ++ flagByte c

/-- The parcel of a notice for position `p`. -/
def State.noticeParcel (s : State) (p : Pos) (n : Notice) : List Byte :=
  if n.isOffer then s.offerParcel p else parcel n.code n.bytes

/-- R186: the parcel of a response. -/
def Response.parcel (r : Response) : List Byte :=
  Sys2Proof.Machine.parcel 0x40 (oneByte (r.subject.toNat * 16 + r.code.number) ++ [r.kind] ++ r.content)

end Sys2Proof.Machine
end

