-- ==== Sys2Proof/Machine/Lanes.lean ====
section
/-! DEFINITION. The lanes: the byte handshake, the form of parcels, the lane reset and the lane arbiter (R160 to
R166, R173, R174). -/

namespace Sys2Proof.Machine

/-! ### Owing a response -/

/-- R164, R165: the response to a malformed parcel. Its subject bits are 0, for no QUERY was received (log 26). -/
def badFormResponse (kind : Byte) : Response :=
  { code := .badForm, kind := kind, subject := 0, content := [kind], withheld := false }

/-- R165, R166: a lane that owes a response. -/
def Lane.owe (r : Response) (l : Lane) : Lane := { l with inbound := .held, buffer := [], owed := some r }

/-! ### Inbound -/

/-- What a byte completes: nothing, or a well-formed parcel (kind and payload). -/
abbrev Arrival := Option (Byte × List Byte)

/-- R164: the form of a parcel whose bytes so far are `bytes`, the newest with last flag `last`. -/
def Lane.form (bytes : List Byte) (last : Bool) (l : Lane) : Lane × Arrival :=
  let kind := bytes.headD 0
  let n := bytes.length
  let on : Lane := { l with inbound := .receiving, buffer := bytes }
  let drain : Lane := { l with inbound := .draining, buffer := bytes }
  match bytes.tail with
  | [] => if last then (l.owe (badFormResponse kind), none) else (on, none)
  | len :: payload =>
    if 30 < len.toNat then (if last then (l.owe (badFormResponse kind), none) else (drain, none))
    else if last then
      if n < 2 + len.toNat then (l.owe (badFormResponse kind), none)
      else ({ l with inbound := .held, buffer := [] }, some (kind, payload))
    else if n = 2 + len.toNat then (drain, none)
    else (on, none)

/-- R160, R164: a byte taken from the card. -/
def Lane.takeByte (b : Byte) (last : Bool) (l : Lane) : Lane × Arrival :=
  match l.inbound with
  | .opened => l.form [b] last
  | .receiving => l.form (l.buffer ++ [b]) last
  | .draining => if last then (l.owe (badFormResponse (l.buffer.headD 0)), none) else (l, none)
  | .held => (l, none)

/-- R160: the inbound direction at the end of frame `f`: the card drives byte `b` with its last flag and its offer
toggle. -/
def Lane.hear (f : Nat) (b : Byte) (last offer : Bool) (l : Lane) : Lane × Arrival :=
  if offer = l.take then (l, none)
  else match l.inbound with
    | .held => (l, none)
    | .opened =>
      if f ≤ Config.lastOpeningFrame then { l with take := offer }.takeByte b last else (l, none)
    | _ => { l with take := offer }.takeByte b last

/-! ### Outbound -/

/-- R161, R166: the transfer is complete. -/
def Lane.finish (t : Transfer) (l : Lane) : Lane :=
  match t.what with
  | .response => { l with sending := none, owed := none, inbound := .opened }
  | _ => { l with sending := none }

/-- R161: the outbound direction at the end of a frame in which the card's take toggle reads `take`. -/
def Lane.answer (take : Bool) (l : Lane) : Lane :=
  let l := { l with cardTake := take }
  match l.sending with
  | none => l
  | some t =>
    if take = l.offer then
      if t.taken + 1 < t.bytes.length
      then { l with sending := some { t with taken := t.taken + 1 }, offer := !l.offer }
      else l.finish t
    else l

/-- R161: the byte a lane has on offer, with its last flag; 0 and clear on an IDLE lane (log 41). -/
def Lane.outByte (l : Lane) : Byte × Bool :=
  match l.sending with
  | some t => (t.bytes.getD t.taken 0, t.taken + 1 == t.bytes.length)
  | none => (0, false)

/-- R161: the outbound direction begins a parcel. -/
def Lane.send (bytes : List Byte) (what : Carried) (l : Lane) : Lane :=
  { l with sending := some ⟨bytes, 0, what⟩, offer := !l.offer }

/-! ### Reset -/

/-- R163: a lane reset. -/
def Lane.reset (l : Lane) : Lane :=
  let lost := match l.sending with
    | some t => decide (t.what = .response)
    | none => false
  let owed := if lost then none else l.owed
  { inbound := if l.inbound = .held && !lost then .held else .opened
    take := false, buffer := [], owed := owed, sending := none, offer := false, cardTake := false, board := l.board }

/-- R114, R163: an offer is in transfer on the lane. -/
def Lane.carriesOffer (l : Lane) : Bool :=
  match l.sending with
  | some t => decide (t.what = .offer)
  | none => false

/-- R163: the lane of position `p` is reset; an offer lost in transfer leaves no cursor (R114). -/
def State.resetLane (p : Pos) (s : State) : State :=
  if s.occupied p then
    let s' := if (s.lane p).carriesOffer then s.setPos p { s.pos p with cursor := none } else s
    s'.setLane p (s.lane p).reset
  else s

/-- R163: every lane of a position that is not EMPTY is reset. -/
def State.resetLanes (s : State) : State := allPos.foldl (fun s p => s.resetLane p) s

/-- R104, R162: the lane and board of a position that goes EMPTY. -/
def State.clearLane (p : Pos) (s : State) : State := s.setLane p .initial

/-! ### The arbiter -/

/-- R173: the oldest board entry of the highest class. -/
def Lane.oldest (l : Lane) : Option BoardEntry :=
  (l.board.find? fun e => e.notice.rank == 2).or
    ((l.board.find? fun e => e.notice.rank == 1).or (l.board.find? fun e => e.notice.rank == 0))

/-- R173: the parcel fits before frame 980. -/
def fits (f : Nat) (bytes : List Byte) : Bool := decide (f + bytes.length + 8 ≤ Config.quietFrame)

/-- R161, R173: the lane is free to begin a parcel. In frame 0 no lane begins one (R154, R163; log 16). -/
def State.laneFree (s : State) (p : Pos) : Bool :=
  s.occupied p && decide (s.time.frame ≠ 0) && decide (s.time.frame < Config.quietFrame) && (s.lane p).sending.isNone &&
    ((s.lane p).cardTake == (s.lane p).offer)

/-- R173: the owed response that may be sent. -/
def Lane.sendable (l : Lane) : Option Response := l.owed.filter fun r => !r.withheld

/-- R174: the transfer of a board entry begins. -/
def State.sendNotice (p : Pos) (e : BoardEntry) (bytes : List Byte) (s : State) : State :=
  let l := s.lane p
  let what : Carried := if e.notice.isOffer then .offer else .notice
  let s' := s.setLane p ({ l with board := dropFirst (fun x => decide (x = e)) l.board }.send bytes what)
  if e.notice.isOffer then s'.setPos p { s.pos p with cursor := some ((s.pos p).held, s.scale.g) } else s'

/-- R173, R174: the lane arbiter of position `p` in the frame in progress. -/
def State.arbiter (p : Pos) (s : State) : State :=
  if s.laneFree p then
    match (s.lane p).sendable with
    | some r => if fits s.time.frame r.parcel then s.setLane p ((s.lane p).send r.parcel .response) else s
    | none =>
      match (s.lane p).oldest with
      | some e =>
        let bytes := s.noticeParcel p e.notice
        if fits s.time.frame bytes then s.sendNotice p e bytes else s
      | none => s
  else s

/-- R161: the card takes every byte of the parcel in transfer that it has not yet taken (log 5). -/
def Lane.takeAll (l : Lane) : Lane :=
  match l.sending with
  | none => l
  | some t =>
    let left := t.bytes.length - t.taken
    let offer := if left % 2 = 1 then l.offer else !l.offer
    { l with offer := offer, cardTake := offer }.finish t

end Sys2Proof.Machine
end

