-- ==== Sys2Proof/Machine/Operands.lean ====
section
/-! DEFINITION. Requests and their payloads (R164, R165, R168, R184, R185). -/

namespace Sys2Proof.Machine

/-- R185: a request with the fields of its payload. -/
inductive Request where
  | announce (origin ds kind : Byte) (instant : Option (BitVec 40))
  | setTime (x : BitVec 40)
  | setOffset (value : BitVec 16)
  | confirm (id : Byte)
  | withdraw (id : Byte)
  | shiftZone (zone : Byte) (offset : BitVec 16) (instant : BitVec 40)
  | configure (param : Byte) (value : BitVec 32)
  | setPosition (target mode zone : Byte)
  | muteSource (target origin action : Byte)
  | clearScale
  | rulesetStart (length : BitVec 16) (units : Byte) (serial : BitVec 32)
  | rulesetData (bytes : List Byte)
  | rulesetFinish
  | rulesetAbandon
  | rehearse (span : BitVec 16)
  | rehearsalCancel
  | query (subject index : Byte)
deriving DecidableEq, Repr

/-- R168: the kind codes of the requests. -/
def Request.kind : Request → Byte
  | .announce _ _ _ _ => 0x10
  | .setTime _ => 0x11
  | .setOffset _ => 0x12
  | .confirm _ => 0x13
  | .withdraw _ => 0x14
  | .shiftZone _ _ _ => 0x15
  | .configure _ _ => 0x16
  | .setPosition _ _ _ => 0x17
  | .muteSource _ _ _ => 0x18
  | .clearScale => 0x19
  | .rulesetStart _ _ _ => 0x20
  | .rulesetData _ => 0x21
  | .rulesetFinish => 0x22
  | .rulesetAbandon => 0x23
  | .rehearse _ => 0x28
  | .rehearsalCancel => 0x29
  | .query _ _ => 0x30

/-- The bytes of a word of `8 n` bits, most significant first (R184). -/
def wordBytes {w : Nat} (n : Nat) (x : BitVec w) : List Byte := beBytes n x.toNat

/-- The word that bytes spell, most significant first (R184). -/
def wordOf (w : Nat) (l : List Byte) : BitVec w := BitVec.ofNat w (beNat l)

/-- R185: the payload of a request. -/
def Request.payload : Request → List Byte
  | .announce o d k none => [o, d, k]
  | .announce o d k (some i) => [o, d, k] ++ wordBytes 5 i
  | .setTime x => wordBytes 5 x
  | .setOffset v => wordBytes 2 v
  | .confirm id => [id]
  | .withdraw id => [id]
  | .shiftZone z o i => [z] ++ wordBytes 2 o ++ wordBytes 5 i
  | .configure k v => [k] ++ wordBytes 4 v
  | .setPosition q m z => [q, m, z]
  | .muteSource q o a => [q, o, a]
  | .rulesetStart l u n => wordBytes 2 l ++ [u] ++ wordBytes 4 n
  | .rulesetData b => b
  | .rehearse r => wordBytes 2 r
  | .query k i => [k, i]
  | _ => []

/-- R165: a payload of a length that R185 does not allow. -/
def parsed (r : Option Request) : Except Code Request :=
  match r with
  | some r => .ok r
  | none => .error .badForm

/-- R185: a request without a payload. -/
def bare (r : Request) (b : List Byte) : Except Code Request := parsed (if b.isEmpty then some r else none)

/-- R165, R185: the request that a kind and a payload spell, or UNKNOWN_KIND, or BAD_FORM for a length that the
kind does not allow. -/
def Request.parse (kind : Byte) (b : List Byte) : Except Code Request :=
  if kind = 0x10 then parsed (match b with
    | [o, d, k] => some (.announce o d k none)
    | [o, d, k, a, b, c, d', e] => some (.announce o d k (some (wordOf 40 [a, b, c, d', e])))
    | _ => none)
  else if kind = 0x11 then parsed (if b.length = 5 then some (.setTime (wordOf 40 b)) else none)
  else if kind = 0x12 then parsed (if b.length = 2 then some (.setOffset (wordOf 16 b)) else none)
  else if kind = 0x13 then parsed (match b with
    | [id] => some (.confirm id)
    | _ => none)
  else if kind = 0x14 then parsed (match b with
    | [id] => some (.withdraw id)
    | _ => none)
  else if kind = 0x15 then parsed (match b with
    | [z, x, y, a, b, c, d, e] => some (.shiftZone z (wordOf 16 [x, y]) (wordOf 40 [a, b, c, d, e]))
    | _ => none)
  else if kind = 0x16 then parsed (match b with
    | [k, a, b, c, d] => some (.configure k (wordOf 32 [a, b, c, d]))
    | _ => none)
  else if kind = 0x17 then parsed (match b with
    | [q, m, z] => some (.setPosition q m z)
    | _ => none)
  else if kind = 0x18 then parsed (match b with
    | [q, o, a] => some (.muteSource q o a)
    | _ => none)
  else if kind = 0x19 then bare .clearScale b
  else if kind = 0x20 then parsed (match b with
    | [x, y, u, a, b, c, d] => some (.rulesetStart (wordOf 16 [x, y]) u (wordOf 32 [a, b, c, d]))
    | _ => none)
  else if kind = 0x21 then parsed (if b.length ≤ 30 then some (.rulesetData b) else none)
  else if kind = 0x22 then bare .rulesetFinish b
  else if kind = 0x23 then bare .rulesetAbandon b
  else if kind = 0x28 then parsed (if b.length = 2 then some (.rehearse (wordOf 16 b)) else none)
  else if kind = 0x29 then bare .rehearsalCancel b
  else if kind = 0x30 then parsed (match b with
    | [k, i] => some (.query k i)
    | _ => none)
  else .error .unknownKind

/-- R186: the subject bits of the answer: the subject of a QUERY, 0 for every other request. For a subject code
above 7 they are a free value (log 18). -/
def Request.subject : Request → BitVec 3
  | .query k _ => if k.toNat < 8 then k.setWidth 3 else Config.unlistedSubject k
  | _ => 0

def Request.isQuery : Request → Bool
  | .query _ _ => true
  | _ => false

def Request.isMute : Request → Bool
  | .muteSource _ _ _ => true
  | _ => false

def Request.isAnnounce : Request → Bool
  | .announce _ _ _ _ => true
  | _ => false

end Sys2Proof.Machine
end

