-- ==== Sys2Proof/Machine/Roster.lean ====
section
/-! DEFINITION. The Position Roster: samplers, states, timers and settings (R100 to R118). -/

namespace Sys2Proof.Machine

/-! ### The card segment -/

/-- R183: the fields of a card segment as sampled; the first bit is the most significant. -/
structure CardSegment where
  intent : BitVec 4
  role : BitVec 2
  mark : Bool
  held : Byte
  ready : BitVec 4
  laneByte : Byte
  offer : Bool
  last : Bool
  take : Bool
deriving DecidableEq, Repr

/-- R156: a segment no card drives. -/
def undriven : BitVec 48 := BitVec.allOnes 48

/-- R183: a card segment read. -/
def readSegment (v : BitVec 48) : CardSegment :=
  { intent := v.extractLsb' 44 4, role := v.extractLsb' 42 2, mark := v.getLsbD 41,
    held := v.extractLsb' 33 8, ready := v.extractLsb' 29 4, laneByte := v.extractLsb' 21 8,
    offer := v.getLsbD 20, last := v.getLsbD 19, take := v.getLsbD 18 }

/-- R101: the intent a code is read as. -/
def readIntent (c : BitVec 4) : Intent :=
  if c = 15 then .idle else if c = 2 then .following else .present

/-- R101: the role a code is read as. -/
def readRole (c : BitVec 2) : Role :=
  if c = 1 then .standby else if c = 2 then .lead else .none

/-! ### Samplers -/

/-- R101: a sampler takes the value read in a frame. -/
def Sampler.feed {α : Type} [DecidableEq α] (x : α) (m : Sampler α) : Sampler α :=
  if m.last = some x then { m with count := min 3 (m.count + 1) } else { last := some x, count := 1 }

/-- R101: the value a sampler stands ready to qualify. -/
def Sampler.steady {α : Type} (m : Sampler α) : Option α := if m.count = 3 then m.last else none

/-! ### Entering a state -/

/-- R107: entry to LAGGING. -/
def Position.toLagging (x : Position) : Position :=
  { x with state := .lagging, lag := 0, takeCheck := none, cursor := none }

/-- R103, R106: entry to JOINING. -/
def Position.toJoining (x : Position) : Position :=
  { x with state := .joining, lag := 0, takeCheck := none, cursor := none }

/-- R105, R109: entry to IN_STEP. -/
def Position.toInStep (x : Position) : Position := { x with state := .inStep, lag := 0 }

/-- R110, R111: entry to DROPPED. -/
def Position.toDropped (x : Position) : Position := { x with state := .dropped, cursor := none }

/-- R104: the record of a position that goes EMPTY. -/
def Position.depart (x : Position) : Position :=
  { x with state := .empty, intent := .idle, role := .none, held := none, ready := 0, lag := 0,
           takeCheck := none, cursor := none }

/-- R116: the content of SLOT_STATE. -/
def Position.report (x : Position) : SlotReport :=
  { state := x.state, intent := x.intent, held := x.held, ready := x.ready, lag := x.lag, mode := x.mode,
    zone := x.zone }

/-- R116: SLOT_STATE for position `p`, as it stands. -/
def State.noteSlot (p : Pos) (s : State) : State := s.notifyControllers (.slotState p (s.pos p).report)

/-! ### A frame of a position -/

/-- What a frame did to a position: nothing to report, a SLOT_STATE to queue, or a departure (R104, R116). -/
inductive PosEvent where
  | quiet
  | report
  | departed
deriving DecidableEq, Repr

/-- R101: the four samplers take a frame's segment. -/
def Position.sample (c : CardSegment) (x : Position) : Position :=
  { x with
    sIntent := x.sIntent.feed (readIntent c.intent), sRole := x.sRole.feed (readRole c.role),
    sHeld := x.sHeld.feed c.held, sReady := x.sReady.feed c.ready.toNat }

/-- R102: role, held generation and ready tag taken from the samplers that stand steady. -/
def Position.takeFields (x : Position) : Position :=
  { x with
    role := x.sRole.steady.getD x.role
    held := x.sHeld.steady.or x.held
    ready := x.sReady.steady.getD x.ready }

/-- R105: a JOINING position that follows and holds G mod 256 becomes IN_STEP. -/
def Position.join (g8 : Byte) (x : Position) : Position × PosEvent :=
  if x.state = .joining && x.intent = .following && x.held = some g8 then (x.toInStep, .report) else (x, .quiet)

/-- R106: a change of qualified intent to `i`, not IDLE, at an occupied position. The take check becomes absent from
IN_STEP alone; one that R108 set on a LAGGING or DROPPED position counts on. -/
def Position.newIntent (i : Intent) (x : Position) : Position :=
  match x.state with
  | .joining => { x with intent := i, lag := 0 }
  | .inStep => if i = .present then { x.toJoining with intent := i } else { x with intent := i }
  | _ =>
    if i = .present then { x.toJoining with intent := i, takeCheck := x.takeCheck } else { x with intent := i }

/-- R105, R107, R109: the tests made in the frame in which the held generation qualifies a new value. -/
def Position.newHeld (g8 : Byte) (x : Position) : Position × PosEvent :=
  match x.state with
  | .lagging => if x.held = some g8 then (x.toInStep, .report) else (x, .quiet)
  | .inStep => if x.held ≠ some g8 && x.takeCheck.isNone then (x.toLagging, .report) else (x, .quiet)
  | _ => x.join g8

/-- R101 to R109: a position at the end of a frame whose segment is `c`. The intent is taken before the held
generation (log 14). -/
def Position.frame (g8 : Byte) (c : CardSegment) (x : Position) : Position × PosEvent :=
  let y := x.sample c
  let i := y.sIntent.steady.getD y.intent
  if x.state = .empty then
    if i = .idle then (y, .quiet)
    else ({ y.toJoining with intent := i }.takeFields).join g8
  else if i = .idle then (y.depart, .departed)
  else
    let y := y.takeFields
    let y := if i = x.intent then y else y.newIntent i
    if y.held = x.held then (if i = x.intent then (y, .quiet) else y.join g8) else y.newHeld g8

/-! ### A boundary of a position -/

/-- R105, R109: the tests of a boundary. -/
def Position.boundaryTest (g8 : Byte) (x : Position) : Position × PosEvent :=
  match x.state with
  | .lagging => if x.held = some g8 then (x.toInStep, .report) else (x, .quiet)
  | _ => x.join g8

/-- R108: a take check that has fallen due. -/
def Position.takeDue (g8 : Byte) (x : Position) : Position × PosEvent :=
  if x.state = .inStep && x.held ≠ some g8 then (x.toLagging, .report)
  else ({ x with takeCheck := none }, .quiet)

/-- R108: the take check at a boundary, set afresh where G changed. -/
def Position.boundaryTake (g8 : Byte) (changed : Bool) (limit : Nat) (x : Position) : Position × PosEvent :=
  if x.state = .empty then (x, .quiet)
  else if changed then ({ x with takeCheck := some limit }, .quiet)
  else match x.takeCheck with
    | none => (x, .quiet)
    | some n => if n ≤ 1 then x.takeDue g8 else ({ x with takeCheck := some (n - 1) }, .quiet)

/-- R110: a position whose lag timer runs. -/
def Position.lagRuns (x : Position) : Bool :=
  (x.state == .joining || x.state == .lagging) && x.intent == .following

/-- R110: the lag timer's tick. -/
def Position.boundaryLag (limit : Nat) (x : Position) : Position × PosEvent :=
  if x.lagRuns then
    let y := { x with lag := min 255 (x.lag + 1) }
    if limit ≤ y.lag then (y.toDropped, .report) else (y, .quiet)
  else (x, .quiet)

/-- R105, R108 to R110: a position at a boundary. A position made LAGGING here is not ticked here. -/
def Position.boundary (g8 : Byte) (changed : Bool) (take lag : Nat) (x : Position) : Position × PosEvent :=
  let (y, e) := x.boundaryTest g8
  let (z, e') := y.boundaryTake g8 changed take
  if e' = .report then (z, .report)
  else
    let (w, e'') := z.boundaryLag lag
    (w, if e = .report || e'' = .report then .report else .quiet)

/-- The Roster's work at a boundary. -/
def State.boundaryRoster (changed : Bool) (s : State) : State :=
  allPos.foldl (fun s p =>
    let (x, e) := (s.pos p).boundary s.g8 changed (s.value Config.takeLimit) (s.value Config.lagLimit)
    let s := s.setPos p x
    if e = .report then s.noteSlot p else s) s

/-! ### Timers of their own -/

/-- R108: the tick that brings a take check to 0; before that tick nothing happens (log 4). -/
def takeCheckDue (p : Pos) (s : State) : State :=
  match (s.pos p).takeCheck with
  | some n =>
    if n ≤ 1 then
      let (x, e) := (s.pos p).takeDue s.g8
      let s := s.setPos p x
      if e = .report then s.noteSlot p else s
    else s
  | none => s

/-- R110: the tick that brings a lag timer to the lag limit; before that tick nothing happens (log 4). -/
def lagLimitReached (p : Pos) (s : State) : State :=
  let (x, e) := (s.pos p).boundaryLag (s.value Config.lagLimit)
  if e = .report then (s.setPos p x).noteSlot p else s

/-! ### Settings -/

/-- R117: SET_POSITION from position `p`. -/
def setPosition (p : Pos) (target mode zone : Byte) (s : State) : State × Reply :=
  if h : target.toNat < 12 then
    let q : Pos := ⟨target.toNat, h⟩
    if !(decide (q = p) || s.holdsLead p) then refuse s .notPermitted
    else if hz : zone.toNat < 16 then
      if 2 ≤ mode.toNat then refuse s .outOfRange
      else
        let m : Delivery := if mode = 0 then .step else .smear
        accept (s.setPos q { s.pos q with pendingSettings := some (m, ⟨zone.toNat, hz⟩) })
          (oneByte m.number ++ oneByte zone.toNat)
    else refuse s .outOfRange
  else refuse s .outOfRange

/-- R118: a position's pending settings take effect. -/
def Position.settle (x : Position) : Position :=
  match x.pendingSettings with
  | some (m, z) => { x with mode := m, zone := z, pendingSettings := none }
  | none => x

/-- R118: frame 0 of a second. -/
def State.boundarySettings (s : State) : State := { s with roster := s.roster.map Position.settle }

end Sys2Proof.Machine
end

