-- ==== Sys2Proof/Machine/Rehearsal.lean ====
section
/-! DEFINITION. Rehearsals: R119 to R128. -/

namespace Sys2Proof.Machine

/-- R119, R120: the per-position detail cleared. -/
def Rehearsal.clearDetail (r : Rehearsal) : Rehearsal := { r with detail := .fill 12 .initial }

/-- R123: the roll-call result of a rehearsal, as counted. -/
def Rehearsal.counts (r : Rehearsal) : Nat × Nat :=
  ((r.detail.items.filter fun d => d.roll == some .ready).length,
   (r.detail.items.filter fun d => d.roll == some .notReady).length)

/-- R127: REHEARSAL_RESULT to the lead holder, or to the requester while there is none. -/
def State.noteResult (ready notReady : Nat) (cancelled : Bool) (s : State) : State :=
  match s.time.holder.or s.rehearsal.requester with
  | some c => s.notifyOne (ctlPos c) (.rehearsalResult ready notReady cancelled)
  | none => s

/-- R124, R126: the end of a rehearsal: its tag is freed, its pending ARMED leaves the boards, its result is set
and queued. -/
def State.endRehearsal (completed : Bool) (s : State) : State :=
  let (a, b) := s.rehearsal.counts
  let s := s.clearBoards (Notice.armsRecord 0)
  let s := s.noteResult a b (!completed)
  { s with rehearsal := { s.rehearsal with
      phase := .none, tag := none, affected := none, result := some ⟨completed, a, b⟩ } }

/-- R126: cancellation of a running rehearsal. -/
def State.cancelRehearsal (s : State) : State := if s.rehearsal.running then s.endRehearsal false else s

/-- R119, step 6: a QUALIFIED record that could arm within the next `r + 1` boundaries of second `t`. -/
def couldArm (t r lead : Nat) (x : Record) : Bool :=
  x.state == .qualified &&
  (match x.change, x.affected with
    | .baseline _, _ => true
    | _, some a => decide (t + 2 ≤ a) && decide (a ≤ t + r + 1 + lead)
    | _, none => false)

/-- R119: REHEARSE from position `p`. -/
def rehearse (p : Pos) (span : BitVec 16) (s : State) : State × Reply :=
  if !s.holdsLead p then refuse s .notPermitted
  else
    let r := max 5 (min 600 span.toNat)
    match s.time.t, s.scale.d with
    | some t, some _ =>
      if s.rehearsal.running then refuse s .busy
      else if !s.scale.groups.isEmpty then refuse s .busy
      else if s.records.any (couldArm t r (s.value Config.armingLead)) then refuse s .busy
      else if Config.maxT < t + 1 + r then refuse s .outOfRange
      else
        accept { s with rehearsal := { (s.rehearsal.clearDetail) with
          phase := .pending, span := r, requester := posCtl p, tag := none, armedAt := none, affected := none,
          result := none } } (beBytes 2 r)
    | _, _ => refuse s .unset

/-- R125: REHEARSAL_CANCEL from position `p`. In CALLED, which R125 says it never meets, it is taken as in ARMED: DESIGN CHOICE
(unsafe), log 61. -/
def rehearsalCancel (p : Pos) (s : State) : State × Reply :=
  if !s.holdsLead p then refuse s .notPermitted
  else if !s.rehearsal.running then refuse s .wrongState
  else accept s.cancelRehearsal

/-- R122: the latency of a position with qualified ready tag `ready`, at the end of a frame. -/
def Detail.frame (tag ready : Nat) (d : Detail) : Detail :=
  if d.reached then d
  else if ready = tag then { d with reached := true }
  else { d with latency := min Config.count16 (d.latency + 1) }

/-- R122: latency counting at the end of a frame. -/
def State.frameRehearsal (s : State) : State :=
  match s.rehearsal.phase, s.rehearsal.tag with
  | .armed, some k =>
    { s with rehearsal := { s.rehearsal with
      detail := .build 12 fun p => (s.rehearsal.detail.get p).frame k (s.pos p).ready } }
  | _, _ => s

/-- R123: the rehearsal's roll call. -/
def State.rollRehearsal (s : State) : State :=
  match s.rehearsal.phase, s.rehearsal.tag, s.rehearsal.affected, s.time.t with
  | .armed, some k, some a, some t =>
    if a = t + 1 then
      { s with rehearsal := { s.rehearsal with
        phase := .called,
        detail := .build 12 fun p => { (s.rehearsal.detail.get p) with roll := some ((s.pos p).rollMark k) } } }
    else s
  | _, _, _, _ => s

/-- R17: the rehearsal group moved by a re-time from `t` to `x`; out of range, it is cancelled (R126). -/
def State.moveRehearsal (t x : Nat) (s : State) : State :=
  match s.rehearsal.isArmed, s.rehearsal.affected with
  | true, some a =>
    let a' := a + x - (t + 1)
    if Config.maxT < a' then s.cancelRehearsal
    else { s with rehearsal := { s.rehearsal with affected := some a' } }
  | _, _ => s

/-- R120: a PENDING rehearsal in the arming pass of boundary `b`; `real` says that a real group armed. -/
def State.settlePending (b : Nat) (real : Bool) (s : State) : State :=
  if s.rehearsal.phase = .pending then
    let a := b + s.rehearsal.span
    if real || decide (Config.maxT < a) then s.cancelRehearsal
    else match s.freeTag with
      | none => s
      | some k =>
        let detail : Tab Detail 12 := .build 12 fun p =>
          if (s.pos p).ready = k then { Detail.initial with reached := true } else .initial
        let s := { s with rehearsal := { s.rehearsal with
          phase := .armed, tag := some k, armedAt := some b, affected := some a, detail := detail } }
        s.notifyAll (.armed { id := 0, change := none, late := false, newValue := 0, instant := 0,
                              affected := a, tag := k, start := 0, stop := 0 })
  else s

/-- R124: completion of the rehearsal at its affected second. -/
def State.completeRehearsal (t : Nat) (s : State) : State :=
  if s.rehearsal.isArmed && decide (s.rehearsal.affected = some t) then s.endRehearsal true else s

end Sys2Proof.Machine
end

