-- ==== Sys2Proof/Machine/TimeBase.lean ====
section
/-! DEFINITION. The Time Base: the boundary's T, the mark trackers, the lead role and SET_TIME (R2 to R17). -/

namespace Sys2Proof.Machine

/-! ### SET_TIME and the boundary -/

/-- R16, step 3: the pending value `x` is a re-time of the known second `t`. -/
def isRetime (t x : Nat) : Bool := x != t + 1

/-- R16, step 4: an armed group's countdown stands at 2 or less. -/
def State.retimeBlocked (s : State) (t : Nat) : Bool := s.armedGroups.any fun g => decide (g.affected ≤ t + 2)

/-- R16: SET_TIME from position `p`. -/
def setTime (p : Pos) (x : BitVec 40) (s : State) : State × Reply :=
  let x := x.toNat
  let take := accept (s.setTime { s.time with pendingTime := some x })
  if !s.holdsLead p then refuse s .notPermitted
  else if x < 256 || decide (Config.maxT - 1 < x) then refuse s .outOfRange
  else match s.time.t with
    | none => take
    | some t => if isRetime t x && s.retimeBlocked t then refuse s .busy else take

/-- R2: the T of the new second. -/
def TimeBase.newT (b : TimeBase) : Option Nat :=
  match b.t, b.pendingTime with
  | _, some x => some x
  | some t, none => some (nextT t)
  | none, none => none

/-- R17: this boundary consumes a re-time. -/
def TimeBase.retimes (b : TimeBase) : Bool :=
  match b.t, b.pendingTime with
  | some t, some x => isRetime t x
  | _, _ => false

/-- R2: T of the second that begins; the pending value is consumed. -/
def TimeBase.advance (b : TimeBase) : TimeBase := { b with t := b.newT, pendingTime := none }

/-! ### Trackers -/

/-- R5: the interval count at the end of a frame. -/
def Tracker.tick (k : Tracker) : Tracker := { k with interval := min Config.intervalLimit (k.interval + 1) }

/-- R6: a counted mark of a tracker that seeks. -/
def Tracker.count (k : Tracker) : Tracker :=
  let run := min 4 (k.run + 1)
  if run = 4 then { k with mode := .aligned, run := 4, misses := 0, interval := 0 }
  else { k with run := run, interval := 0 }

/-- R4, R6, R7: a mark is counted: it stands at the tracker's position one second after the last. -/
def Tracker.counts (at_ : Nat) (k : Tracker) : Bool := k.candidate == some at_ && k.interval == 1000

/-- R6, R7: a mark of position `at_` is taken. -/
def Tracker.mark (at_ : Nat) (k : Tracker) : Tracker :=
  match k.mode with
  | .aligned => if k.counts at_ then { k with misses := 0, interval := 0 } else k
  | _ =>
    if k.counts at_ then k.count
    else { k with candidate := some at_, run := 1, interval := 0 }

/-- R7: a miss is counted. -/
def Tracker.miss (k : Tracker) : Tracker :=
  if k.misses + 1 < 3 then { k with misses := k.misses + 1, interval := 1 }
  else { k with mode := .flywheel, misses := 3, run := 0 }

/-- R7: the interval count of an ALIGNED tracker has reached 1001. -/
def Tracker.missDue (k : Tracker) : Bool := decide (k.mode = .aligned) && decide (Config.intervalLimit ≤ k.interval)

/-- R4: the position of a mark carried in frame `f`. -/
def markPosition (f : Nat) : Nat := (f + 1) % Config.framesPerSecond

/-- R4 to R7: a tracker at the end of frame `f` in which its position carried mark bit `bit`; `read` is false where
the position was EMPTY (R4). The mark is taken before the miss (log 23). -/
def Tracker.frame (f : Nat) (read bit : Bool) (k : Tracker) : Tracker :=
  let rise := bit && !k.lastBit
  let k := k.tick
  let k := if rise && read then k.mark (markPosition f) else k
  let k := if k.missDue then k.miss else k
  { k with lastBit := bit }

/-- R6, R7, R9, R10: in frame `f` the tracker counts a mark as ALIGNED, or becomes ALIGNED by it. -/
def Tracker.strikes (f : Nat) (read bit : Bool) (k : Tracker) : Bool :=
  let rise := bit && !k.lastBit
  let k := k.tick
  rise && read && k.counts (markPosition f) && decide ((k.mark (markPosition f)).mode = .aligned)

/-- R7: the tick of an ALIGNED tracker's interval count that reaches 1001; before that tick nothing happens
(log 4). -/
def markMiss (c : Ctl) (s : State) : State :=
  let k := (s.time.tracker c).tick
  if k.missDue then s.setTime (s.time.setTracker c k.miss) else s

/-! ### Realignment -/

/-- R9: a tracker's position after a realignment at `p`. -/
def Tracker.shift (p : Nat) (k : Tracker) : Tracker :=
  { k with candidate := k.candidate.map fun x => (x + Config.framesPerSecond - p) % Config.framesPerSecond }

/-- R9: both trackers after a realignment at `p`. -/
def TimeBase.shift (p : Nat) (b : TimeBase) : TimeBase :=
  { b with trackerA := b.trackerA.shift p, trackerB := b.trackerB.shift p }

/-- R9: TIME_SLIP. -/
def State.noteSlip (p : Nat) (s : State) : State := s.notifyControllers (.timeSlip p)

/-! ### The lead arbiter -/

/-- R11, R12: a controller claims or keeps the lead. -/
def State.wantsLead (s : State) (c : Ctl) : Bool := (s.pos (ctlPos c)).role == .lead && s.occupied (ctlPos c)

/-- R11 to R13: the lead holder that the qualified roles give. -/
def State.nextHolder (s : State) : Option Ctl :=
  match s.time.holder with
  | some h => if s.wantsLead h then some h else if s.wantsLead (otherCtl h) then some (otherCtl h) else none
  | none => if s.wantsLead .a then some .a else if s.wantsLead .b then some .b else none

/-- R12: the claim that stands against a holder. -/
def State.standingClaim (s : State) : Option Ctl → Option Ctl
  | some h => if s.wantsLead (otherCtl h) then some (otherCtl h) else none
  | none => none

/-- R11 to R13: the lead arbiter at the end of a frame. -/
def State.arbitrate (s : State) : State :=
  let h := s.nextHolder
  let s' := s.setTime { s.time with holder := h, claim := s.standingClaim h }
  if h = s.time.holder then s' else s'.notifyControllers (.leadChanged h)

end Sys2Proof.Machine
end

