-- ==== Sys2Proof/Machine/Sources.lean ====
section
/-! DEFINITION. The Source Table: R34 to R52. -/

namespace Sys2Proof.Machine

/-- R51: SOURCE_STATE for entry `i`, with the entry as it stands. -/
def State.noteSource (i : Fin 16) (s : State) : State :=
  s.notifyControllers (.sourceState i (s.source i) ((s.source i).spent s.time.t))

/-- R60: the trailing mark of entry `i` cleared. -/
def State.unmark (i : Fin 16) (s : State) : State :=
  { s with sched := { s.sched with marks := s.sched.marks.put i false } }

/-- R50, R51: an entry's state, key or vouched view changed. -/
def Source.changed (old new : Source) : Bool :=
  decide (old.state ≠ new.state) || decide (old.vouched ≠ new.vouched) || decide (old.key ≠ new.key)

/-- Entry `i` rewritten: a changed effective view or key clears its trailing mark (R60), and a change of state or
vouched view queues SOURCE_STATE (R51). -/
def State.putSource (i : Fin 16) (new : Source) (s : State) : State :=
  let old := s.source i
  let s' := s.setSource i new
  let s' := if old.effective s.time.t = new.effective s.time.t && old.key = new.key then s' else s'.unmark i
  if old.changed new then s'.noteSource i else s'

/-- R50: entry `i` rewritten during a second, the Change Schedule prompted where the entry changed. DESIGN CHOICE (unsafe): no
rule orders SOURCE_STATE (R51) and the notices of the tally that an ANNOUNCE, a MUTE_SOURCE or a STALE prompts; SOURCE_STATE
joins first (log 65). -/
def State.prompt (i : Fin 16) (new : Source) (s : State) : State :=
  if (s.source i).changed new then (s.putSource i new).tally else s.putSource i new

/-- R44: every entry keyed to position `p` becomes STALE. -/
def State.departSources (p : Pos) (s : State) : State :=
  allEntries.foldl (fun s i =>
    let e := s.source i
    match e.key with
    | some k => if k.pos = p && e.state ≠ .free then s.putSource i { e with state := .stale } else s
    | none => s) s

/-- R45: entry `i` takes an ANNOUNCE from position `p`, which departs in this frame: every entry of the position is STALE
at once, before the later requests of the frame (log 46). No tally counts them: the Change Schedule is prompted with the
departures of the frame (R50; log 22). -/
def State.putLeaving (p : Pos) (i : Fin 16) (new : Source) (s : State) : State := (s.putSource i new).departSources p

/-! ### ANNOUNCE -/

/-- R34, R36: the entry that holds a key. -/
def State.entryOf (s : State) (k : SourceKey) : Option (Fin 16) :=
  allEntries.find? fun i => decide ((s.source i).key = some k)

/-- R37: the STALE entry longest unheard, the lowest index among equals. -/
def State.stalest (s : State) : Option (Fin 16) :=
  allEntries.foldl (fun best i =>
    if (s.source i).state = .stale then
      match best with
      | none => some i
      | some j => if (s.source j).silence < (s.source i).silence then some i else some j
    else best) none

/-- R36: the entry a new key takes. -/
def State.roomFor (s : State) : Option (Fin 16) :=
  match allEntries.find? fun i => decide ((s.source i).state = .free) with
  | some i => some i
  | none => s.stalest

/-- R36: an entry that has just taken a key. -/
def Source.fresh (k : SourceKey) (t : Option Nat) : Source :=
  { key := some k, state := .listening, run := 0, candidate := none, vouched := none, lastHeard := none,
    allocated := t, silence := 0 }

/-- R38 to R40: a view taken by an entry, with persistence `k` in second `t`. -/
def Source.hear (k : Nat) (t : Option Nat) (v : View) (e : Source) : Source :=
  let run := if e.candidate = some v then min 15 (e.run + 1) else 1
  let vouched := if k ≤ run then some v else e.vouched
  { e with
    run := run, candidate := some v, vouched := vouched, lastHeard := t, silence := 0,
    state := if e.state = .muted then .muted else if vouched.isSome then .vouching else .listening }

/-- R35, checks 4 to 6: the view an ANNOUNCE of kind `kind` forms, or the code of the check that fails. -/
def announcedView (t : Option Nat) (ds : Nat) (kind : Byte) (instant : Option Nat) : Except Code View :=
  let leap (k : LeapKind) : Except Code View :=
    if leapInRange k ds then
      match instant with
      | some i =>
        match suppliedDay k ds i with
        | some e => .ok ⟨ds, some ⟨k, e, false⟩⟩
        | none => .error .outOfRange
      | none =>
        match t with
        | none => .error .unset
        | some t =>
          match inferredDay ds t with
          | some e => .ok ⟨ds, some ⟨k, e, true⟩⟩
          | none => .error .outOfRange
    else .error .outOfRange
  if kind = 0 then .ok ⟨ds, none⟩
  else if kind = 1 then leap .insert
  else leap .delete

/-- R36 to R41: a view taken under a key; `leaving` where the position departs in this frame (R45). -/
def takeView (leaving : Bool) (k : SourceKey) (v : View) (s : State) : State × Reply :=
  match (s.entryOf k).or s.roomFor with
  | none => refuse s .tableFull
  | some i =>
    let e := if (s.source i).key = some k then s.source i else Source.fresh k s.time.t
    let e := e.hear (s.value Config.persistence) s.time.t v
    accept (if leaving then s.putLeaving k.pos i e else s.prompt i e)
      (oneByte i.val ++ oneByte e.state.number ++ oneByte e.run)

/-- R35: ANNOUNCE from position `p`; `leaving` where it departs in this frame (R45). -/
def announce (leaving : Bool) (p : Pos) (origin ds kind : Byte) (instant : Option (BitVec 40)) (s : State) : State × Reply :=
  match originOf origin with
  | none => refuse s .outOfRange
  | some o =>
    if o = .operator && decide (2 ≤ p.val) then refuse s .notPermitted
    else if 3 ≤ kind.toNat then refuse s .outOfRange
    else match announcedView s.time.t ds.toNat kind (instant.map BitVec.toNat) with
      | .error c => refuse s c
      | .ok v => takeView leaving ⟨p, o⟩ v s

/-! ### Muting -/

/-- R49: the state an unmuted entry takes. -/
def State.unmuted (s : State) (e : Source) : SourceState :=
  let gone := match e.key with
    | some k => !s.occupied k.pos
    | none => true
  if gone then .stale
  else if s.value Config.stalenessLimit ≤ e.silence then .stale
  else if e.vouched.isSome then .vouching else .listening

/-- R48: MUTE_SOURCE; `mute` is the action, none for an unknown one. -/
def muteSource (p : Pos) (target origin : Byte) (mute : Option Bool) (s : State) : State × Reply :=
  if !s.holdsLead p then refuse s .notPermitted
  else if h : target.toNat < 12 then
    match originOf origin, mute with
    | some o, some m =>
      match s.entryOf ⟨⟨target.toNat, h⟩, o⟩ with
      | none => refuse s .notFound
      | some i =>
        let e := s.source i
        if m then accept (s.prompt i { e with state := .muted })
        else if e.state = .muted then accept (s.prompt i { e with state := s.unmuted e })
        else accept s
    | _, _ => refuse s .outOfRange
  else refuse s .outOfRange

/-! ### Staleness -/

/-- R42: a LISTENING or VOUCHING entry at or past the limit becomes STALE. -/
def Source.age (limit : Nat) (e : Source) : Source :=
  if (e.state = .listening || e.state = .vouching) && decide (limit ≤ e.silence) then { e with state := .stale } else e

/-- R42: the silence count raised at a boundary. -/
def Source.tick (e : Source) : Source := { e with silence := min Config.count16 (e.silence + 1) }

/-- R42: the tick of entry `i`'s silence count that reaches the limit; before that tick nothing happens (log 4). -/
def staleEntry (i : Fin 16) (s : State) : State :=
  let e := (s.source i).tick
  if (e.state = .listening || e.state = .vouching) && decide (s.value Config.stalenessLimit ≤ e.silence)
  then s.prompt i (e.age (s.value Config.stalenessLimit)) else s

/-- R44: an entry keyed to a position of `gone` would become STALE. -/
def State.holdsSources (gone : List Pos) (s : State) : Bool :=
  allEntries.any fun i =>
    let e := s.source i
    e.key.any (fun k => gone.contains k.pos) && decide (e.state ≠ .free) && decide (e.state ≠ .stale)

/-- R39: at the boundary of a change of K, a run that reaches it makes the candidate the vouched view. -/
def Source.revouch (k : Nat) (e : Source) : Source :=
  if (e.state = .listening || e.state = .vouching || e.state = .muted) && decide (k ≤ e.run) && e.candidate.isSome
    && decide (e.candidate ≠ e.vouched)
  then { e with vouched := e.candidate, state := if e.state = .listening then .vouching else e.state } else e

/-- R42, R43, R39, R47: entry `i` at a boundary that carries T from `old` to the present T; `rekey` at the boundary of
a change of K. A view that becomes spent, or not spent again, clears the trailing mark (R60) and queues SOURCE_STATE
(R51). -/
def State.boundarySource (old : Option Nat) (rekey : Bool) (i : Fin 16) (s : State) : State :=
  let e := s.source i
  if e.state = .free then s
  else
    let turned := e.spent old != e.spent s.time.t
    let s := if turned then s.unmark i else s
    let aged := (e.tick).age (s.value Config.stalenessLimit)
    let new := if rekey then aged.revouch (s.value Config.persistence) else aged
    let s := s.putSource i new
    if turned && !e.changed new then s.noteSource i else s

/-- The Source Table's work at a boundary. DESIGN CHOICE (unsafe): no rule orders the SOURCE_STATEs of one boundary; the entries
are worked, and their notices join, in ascending index (log 66). -/
def State.boundarySources (old : Option Nat) (rekey : Bool) (s : State) : State :=
  allEntries.foldl (fun s i => s.boundarySource old rekey i) s

/-- R52: CLEAR_SCALE frees every entry. -/
def State.freeSources (s : State) : State :=
  allEntries.foldl (fun s i =>
    if (s.source i).state = .free then s else s.putSource i .initial) s

end Sys2Proof.Machine
end

