-- ==== Sys2Proof/Machine/Changeover.lean ====
section
/-! DEFINITION. The Change-over Controller: arming, roll call, application, settling and CLEAR_SCALE (R79 to
R99), and the requests of the Change Schedule (R72, R74, R75). -/

namespace Sys2Proof.Machine

/-! ### Requests -/

/-- R72, step 5: the roll call of an ARMED record's group has been taken. -/
def State.isCalled (s : State) (r : Record) : Bool :=
  r.state == .armed && s.scale.groups.any fun g => r.tag == some g.tag && g.roll.isSome

/-- R72: WITHDRAW from position `p`. -/
def withdrawRequest (p : Pos) (id : Byte) (s : State) : State × Reply :=
  if !s.holdsLead p then refuse s .notPermitted
  else if id = 0 then refuse s .outOfRange
  else match s.findRecord id.toNat with
    | none => refuse s .notFound
    | some r =>
      if r.state = .settling then refuse s .wrongState
      else if s.isCalled r then refuse s .tooLate
      else accept ((s.withdraw r .request).markSkipped r).tally

/-- R74: CONFIRM from position `p`. -/
def confirm (p : Pos) (id : Byte) (s : State) : State × Reply :=
  if !s.holdsLead p then refuse s .notPermitted
  else if id = 0 then
    match s.scale.d with
    | none => refuse s .unset
    | some _ =>
      if s.scale.provisional then accept { s with scale := { s.scale with confirmPending := true } } else accept s
  else match s.findRecord id.toNat with
    | none => refuse s .notFound
    | some r =>
      if r.change.isBaseline && r.state == .held then
        accept (s.updateRecord r.id fun r => { r with state := .qualified }).tally
      else refuse s .wrongState

/-- R75: a leap is ARMED or SETTLING. -/
def Record.leapBusy (r : Record) : Bool := r.change.isLeap && (r.state == .armed || r.state == .settling)

/-- R75, step 7: every BASELINE to another target is withdrawn REPLACED. DESIGN CHOICE (unsafe): several are withdrawn, and
their WITHDRAWN notices join, in schedule order (log 47). -/
def State.replaceBaselines (v : Nat) (s : State) : State :=
  s.records.foldl (fun a r =>
    if r.change.isBaseline && !r.change.sameKey (.baseline v) then a.withdraw r .replaced else a) s

/-- R75, step 7: a BASELINE to the value is made QUALIFIED with origin OPERATOR, or placed. -/
def State.operatorBaseline (v : Nat) (s : State) : State :=
  let c := Change.baseline v
  match s.records.find? fun r => r.change.sameKey c with
  | some r => s.updateRecord r.id fun r => { r with state := .qualified, origin := .operator, preContest := none }
  | none => s.place c none .operator .qualified none

/-- R65: an item for the value leaves the withdrawn list. -/
def State.unlist (c : Change) (s : State) : State :=
  { s with sched := { s.sched with listed := s.sched.listed.filter fun x => !x.change.sameKey c } }

/-- R75, step 7. DESIGN CHOICE (unsafe): the replaced BASELINEs are withdrawn and listed first, then the leap that makes room is
withdrawn, then the item for the value leaves the withdrawn list; R75 orders them by its sentences alone (log 60). -/
def placeOffset (v : Nat) (s : State) : State × Reply :=
  let c := Change.baseline v
  let done (s : State) : State × Reply := accept (s.unlist c |>.operatorBaseline v).tally
  let kept := s.records.filter fun r => r.isScale && (!r.change.isBaseline || r.change.sameKey c)
  if kept.any (fun r => r.change.sameKey c) || decide (kept.length < Config.scaleRoom) then
    done (s.replaceBaselines v)
  else match s.yielding fun r => r.change.isLeap with
    | some r => done ((s.replaceBaselines v).withdraw r .displaced)
    | none => refuse s .scheduleFull

/-- R75: SET_OFFSET from position `p`. -/
def setOffset (p : Pos) (value : BitVec 16) (s : State) : State × Reply :=
  let v := value.toNat
  if !s.holdsLead p then refuse s .notPermitted
  else if 255 < v then refuse s .outOfRange
  else if s.records.any Record.leapBusy then refuse s .busy
  else if s.scale.d = some v then
    if s.scale.provisional then accept { s with scale := { s.scale with confirmPending := true } } else accept s
  else match s.records.find? fun r => r.change.sameKey (.baseline v) && r.state == .armed with
    | some r => accept (s.updateRecord r.id fun r => { r with origin := .operator }).tally
    | none => placeOffset v s

/-- R95: CLEAR_SCALE from position `p`. -/
def clearScale (p : Pos) (s : State) : State × Reply :=
  if !s.holdsLead p then refuse s .notPermitted
  else accept { s with scale := { s.scale with clearPending := true } }

/-! ### Generation and history -/

/-- R82, R83: G is raised by one and an entry that carries it is added. -/
def State.addHistory (e : BitVec 16 → HistoryEntry) (s : State) : State :=
  let g := s.scale.g + 1
  { s with scale := { s.scale with g := g, history := lastN Config.historyRoom (s.scale.history ++ [e g]) } }

/-! ### Clearing the scale -/

/-- R96: CLEAR_SCALE carried out, with R52 and R78. R52, R96 and R172 give no order among the notices of this moment. DESIGN
CHOICE (unsafe): REHEARSAL_RESULT and SOURCE_STATE are queued first, then the pending ARMED entries leave the boards, then
APPLIED is queued (log 53). -/
def State.clearAll (s : State) : State :=
  let s := s.cancelRehearsal
  let s := { s with
    scale := { s.scale with
      d := none, provisional := false, confirmPending := false, inserting := none, groups := [], history := [],
      clearPending := false }
    sched := { s.sched with
      records := [], listed := [], refused := none, marks := .fill 16 false } }
  let s := s.addHistory fun g =>
    { gen := g, kind := .clear, id := none, instant := none, affected := none, dAfter := none, shift := none,
      applied := s.time.t }
  let s := s.freeSources
  (s.clearBoards Notice.isArmed).notifyAll (.applied s.scale.g s.scale.g 0 0 0 true)

/-- R84, step 1. -/
def State.boundaryClear (s : State) : State := if s.scale.clearPending then s.clearAll else s

/-! ### Steps 2 to 4 of a boundary -/

/-- R92; R84, step 2. D as it stands is raised by one (R80; log 54). -/
def State.boundaryInserted (s : State) : State :=
  match s.scale.inserting with
  | none => s
  | some _ =>
    let s := { s with scale := { s.scale with inserting := none } }
    match s.scale.d with
    | some d => s.setD (d + 1)
    | none => s

/-- R81; R84, step 3. -/
def State.boundaryProvisional (s : State) : State :=
  if s.scale.confirmPending
  then { s with scale := { s.scale with provisional := false, confirmPending := false } } else s

/-- R94: settling has ended at T. -/
def Record.settled (t : Nat) (r : Record) : Bool :=
  r.state == .settling &&
  (match r.affected, r.window with
    | some a, some w => decide (max (a + 1) w.stop ≤ t)
    | some a, none => decide (a + 1 ≤ t)
    | none, _ => true)

/-- R94; R84, step 4. -/
def State.boundarySettling (s : State) : State :=
  match s.time.t with
  | some t => s.setRecords (s.records.filter fun r => !r.settled t)
  | none => s

/-! ### Application -/

/-- R91: a record of a due group is applied; a leap that fails the range check is withdrawn RANGE. DESIGN CHOICE (unsafe): where
D has changed since the leap armed, its change and its history entry are reckoned from D as it stands (R22, R80), not from the
D_old fixed at arming (R29, R83, R91, R92) (log 54). -/
def State.applyRecord (t : Nat) (r : Record) (s : State) : State :=
  let entry (k : HistoryKind) (after : Option Nat) (sh : Option (Nat × Int)) (g : BitVec 16) : HistoryEntry :=
    { gen := g, kind := k, id := some r.id, instant := r.affected.map (instantOf r.change), affected := r.affected,
      dAfter := after, shift := sh, applied := some t }
  match r.change with
  | .leap k e =>
    match s.scale.d with
    | some d =>
      if leapInRange k d then
        match k with
        | .insert =>
          let s := s.addHistory (entry .insert (some (d + 1)) none)
          { s with scale := { s.scale with inserting := some e } }
        | .delete => (s.addHistory (entry .delete (some (d - 1)) none)).setD (d - 1)
      else s.withdraw r .range
    | none => s.withdraw r .range
  | .baseline x =>
    let s := s.addHistory (entry .baseline (some x) none)
    let s := { s with scale := { s.scale with provisional := false } }
    s.setD x
  | .shift z o _ =>
    let s := s.addHistory (entry .shift s.scale.d (some (z, o)))
    if h : z < 16 then { s with zones := s.zones.put ⟨z, h⟩ o } else s

/-- R93: after application an applied leap settles; every other member leaves the schedule. -/
def State.retire (g : Group) (s : State) : State :=
  let mine : Record → Bool := fun r => r.state == .armed && r.tag == some g.tag
  let s := s.setRecords ((s.records.filter fun r => !(mine r) || r.change.isLeap).map fun r =>
    if mine r then { r with state := .settling, roll := g.roll } else r)
  { s with scale := { s.scale with groups := s.scale.groups.filter fun x => !(x.tag == g.tag) } }

/-- R91 to R93: the group whose affected second is `t` is applied. -/
def State.applyGroup (t : Nat) (g : Group) (s : State) : State :=
  let before := s.scale.g
  let s := (s.members g.tag).foldl (fun a r => a.applyRecord t r) s
  let s := s.retire g
  let (a, b) := rollCounts g.roll
  if s.scale.g = before then s
  else s.notifyAll (.applied (before + 1) s.scale.g g.tag a b false)

/-- R84, step 5: application, or completion of the rehearsal; not at a re-time. -/
def State.boundaryApply (retime : Bool) (s : State) : State :=
  match retime, s.time.t with
  | false, some t =>
    let s := match s.scale.groups.find? fun g => g.affected == t with
      | some g => s.applyGroup t g
      | none => s
    s.completeRehearsal t
  | _, _ => s

/-! ### Missed pass -/

/-- R89: a record is missed at T. -/
def Record.isMissed (t : Nat) (retime : Bool) (r : Record) : Bool :=
  (match r.affected with
    | some a => decide (a ≤ t)
    | none => false) &&
  (match r.state with
    | .heard | .contested | .qualified => true
    | .armed => retime
    | _ => false)

/-- R89; R84, step 6. DESIGN CHOICE (unsafe): R89 does not order the MISSED notices of one pass; they join in schedule order,
after every missed record has left (log 67). -/
def State.missedPass (t : Nat) (retime : Bool) (s : State) : State :=
  let gone := s.records.filter (Record.isMissed t retime)
  let s := (s.setRecords (s.records.filter fun r => !r.isMissed t retime)).dissolveEmpty
  gone.foldl (fun a r =>
    a.notifyAll (.missed r.id r.change (r.state == .armed) (r.affected.getD 0))) s

/-! ### Arming pass -/

/-- R29: the end of the effective window of the leap before affected second `a` that is ARMED or SETTLING. -/
def State.windowBefore (s : State) (a : Nat) : Nat :=
  let earlier := s.records.filter fun r => r.leapBusy &&
    (match r.affected with
      | some x => decide (x < a)
      | none => false)
  match earlier.getLast? with
  | some r => (r.window.map Window.stop).getD 0
  | none => 0

/-- R28, R29: the effective window of a leap of instant `i` and affected second `a` that arms at `b`. -/
def State.windowOf (s : State) (k : LeapKind) (i a b d : Nat) : Window :=
  let lead := s.windowLead
  let nominal := i - lead
  let stop := i + s.value Config.smearWindow - lead
  let start := max (max nominal b) (s.windowBefore a)
  if start < i then { start := start, stop := stop, length := stop - start, dOld := d, dNew := leapOffset k d }
  else { start := i, stop := i, length := 0, dOld := d, dNew := leapOffset k d }

/-- R85: the conditions on the affected second. -/
def nearEnough (b lead : Nat) (r : Record) : Bool :=
  match r.affected with
  | some a => decide (b + 1 ≤ a) && decide (a ≤ b + lead)
  | none => false

/-- R85: a QUALIFIED leap or SHIFT that meets every condition but the range of R22. -/
def State.eligible (b : Nat) (s : State) (r : Record) : Bool :=
  r.state == .qualified && !r.change.isBaseline && nearEnough b (s.value Config.armingLead) r &&
    s.scale.d.isSome && !s.scale.provisional

/-- R22: the range condition on the D in force. -/
def State.rangeFails (s : State) (r : Record) : Bool :=
  match r.change, s.scale.d with
  | .leap k _, some d => !leapInRange k d
  | _, _ => false

/-- R85: a QUALIFIED BASELINE that may arm at `b`. -/
def State.baselineEligible (b : Nat) (s : State) (r : Record) : Bool :=
  r.state == .qualified && r.change.isBaseline && decide (b < Config.maxT) &&
    !(s.records.any fun x => x.leapBusy || (x.change.isBaseline && x.state == .armed))

/-- R87: the new value an ARMED notice carries. -/
def Record.newValue (r : Record) : Int :=
  match r.change with
  | .leap _ _ => (((r.window.map Window.dNew).getD 0 : Nat) : Int)
  | .baseline x => (x : Int)
  | .shift _ o _ => o

/-- R87: the content of a record's ARMED notice. -/
def Record.armedReport (r : Record) : ArmedReport :=
  let a := r.affected.getD 0
  { id := r.id, change := some r.change, late := r.late, newValue := r.newValue, instant := instantOf r.change a,
    affected := a, tag := r.tag.getD 0, start := (r.window.map Window.start).getD 0,
    stop := (r.window.map Window.stop).getD 0 }

/-- R87: a record armed at `b` with a tag and affected second `a`. -/
def State.armRecord (b a tag : Nat) (r : Record) (s : State) : State :=
  let w : Option Window := match r.change, s.scale.d with
    | .leap k _, some d => some (s.windowOf k (instantOf r.change a) a b d)
    | _, _ => none
  let r' : Record :=
    { r with state := .armed, tag := some tag, affected := some a, restored := false, window := w,
             late := !r.change.isBaseline && decide (a < b + s.value Config.armingLead) }
  (s.updateRecord r.id fun _ => r').notifyAll (.armed r'.armedReport)

/-- R86: a record joins the group of its affected second, or forms a group with the lowest free tag; a rehearsal
that is armed is cancelled first. Without a free tag nothing arms. -/
def State.armInto (b : Nat) (r : Record) (s : State) : State :=
  let a := r.affected.getD (b + 1)
  match s.scale.groups.find? fun g => g.affected == a with
  | some g => s.armRecord b a g.tag r
  | none =>
    let s := if s.rehearsal.isArmed then s.cancelRehearsal else s
    match s.freeTag with
    | none => s
    | some k =>
      let s := { s with scale := { s.scale with groups := s.scale.groups ++ [Group.mk a k none] } }
      s.armRecord b a k r

/-- R86: records armed in ascending order of the affected second they arm for, then in schedule order (log 68). -/
def armingOrder (b : Nat) (rs : List Record) : List Record :=
  sortBy (fun x y => decide (x.affected.getD (b + 1) ≤ y.affected.getD (b + 1))) rs

def State.armAll (b : Nat) (rs : List Record) (s : State) : State :=
  (armingOrder b rs).foldl (fun a r => a.armInto b r) s

/-- R85, R86; R84, step 7 (log 11, log 12). DESIGN CHOICE (unsafe): no rule orders the WITHDRAWN and ARMED
notices of one pass (R85, R87); every WITHDRAWN RANGE joins first, then the ARMED notices, in the order in which the records arm
(log 68). DESIGN CHOICE (unsafe): beside an eligible leap the groups of leaps and SHIFTs are formed before the BASELINE's, though
its second is the lowest: R85 judges it after the leaps, R86 forms groups in ascending order; where that leap finds no free tag,
a SHIFT may have taken the last one (log 69). -/
def State.armingPass (b : Nat) (s : State) : State :=
  let near := s.records.filter (s.eligible b)
  let s := (near.filter s.rangeFails).foldl (fun a r => a.withdraw r .range) s
  let near := near.filter fun r => !s.rangeFails r
  let base := (s.records.filter (s.baselineEligible b)).take 1
  let before := (s.records.filter fun r => r.state == .armed).length
  let s :=
    if near.any (fun r => r.change.isLeap) then
      let s := s.armAll b near
      s.armAll b ((s.records.filter (s.baselineEligible b)).take 1)
    else s.armAll b (near ++ base)
  s.settlePending b (decide (before < (s.records.filter fun r => r.state == .armed).length))

/-! ### Roll call -/

/-- R90: the roll call of a group: its result is kept, and IN_STEP positions not ready become LAGGING (R107). DESIGN CHOICE
(unsafe): R116 does not order the SLOT_STATEs of one roll call; they join by ascending position (log 64). -/
def State.rollGroup (tag : Nat) (s : State) : State :=
  let roll : Roll := .build 12 fun p => (s.pos p).rollMark tag
  let s := { s with scale := { s.scale with groups := s.scale.groups.map fun g =>
    if g.tag == tag then { g with roll := some roll } else g } }
  allPos.foldl (fun s p =>
    if (s.pos p).state = .inStep && roll.get p = .notReady then (s.setPos p (s.pos p).toLagging).noteSlot p
    else s) s

/-- R90, R123: the roll calls of frame 980 of the present second, each taken once. -/
def State.rollCalls (s : State) : State :=
  match s.time.t with
  | none => s
  | some t =>
    let due := (s.scale.groups.filter fun g => g.affected == t + 1 && g.roll.isNone).map Group.tag
    (due.foldl (fun a k => a.rollGroup k) s).rollRehearsal

end Sys2Proof.Machine
end

