-- ==== Sys2Proof/Machine/Zones.lean ====
section
/-! DEFINITION. Zones, the rule set store and the Rule Set Loader: R129 to R145. -/

namespace Sys2Proof.Machine

/-- R129: the record of a zone. -/
def State.zoneRecord (s : State) (z : Nat) : Option Record :=
  s.records.find? fun r => match r.change with
    | .shift y _ _ => y == z
    | _ => false

/-- R131, R132: SHIFT_ZONE from position `p`. -/
def shiftZone (p : Pos) (zone : Byte) (offset : BitVec 16) (instant : BitVec 40) (s : State) : State × Reply :=
  let z := zone.toNat
  let o := offset.toInt
  let i := instant.toNat
  if !s.holdsLead p then refuse s .notPermitted
  else if !(decide (1 ≤ z) && decide (z ≤ 15) && decide (-720 ≤ o) && decide (o ≤ 840)) then refuse s .outOfRange
  else match s.time.t with
    | none => refuse s .unset
    | some t =>
      if i < t + 2 then refuse s .tooLate
      else
        let old := s.zoneRecord z
        if old.any fun r => r.state == .armed then refuse s .busy
        else
          let s := match old with
            | some r => (s.withdraw r .replaced).markSkipped r
            | none => s
          let id := s.newId
          accept (s.place (.shift z o i) (some i) .operator .qualified none).tally (oneByte id)

/-! ### Drawing -/

/-- R135: the transition of zone `z` drawn at boundary `b`. -/
def RuleStore.draw (r : RuleStore) (z b : Nat) : Option Transition :=
  (sortBy (fun x y => decide (x.instant ≤ y.instant)) (r.transitions.filter fun x =>
    x.zone == z && !x.skipped && decide (b + 2 ≤ x.instant))).head?

/-- The zones that have records. -/
def allZones : List Nat := [1, 2, 3, 4, 5, 6, 7, 8, 9, 10, 11, 12, 13, 14, 15]

/-- R135: the draw of one zone. -/
def State.drawZone (b z : Nat) (s : State) : State :=
  match s.zoneRecord z, s.rules.draw z b with
  | none, some x =>
    s.place (.shift z x.offset x.instant) (some x.instant) .ruleset .qualified (some (x.zone, x.instant))
  | _, _ => s

/-- R135: the draw pass; none while T is unknown, and none at a boundary that carries out CLEAR_SCALE. -/
def State.drawPass (cleared : Bool) (s : State) : State :=
  match cleared, s.time.t with
  | false, some b => allZones.foldl (fun a z => a.drawZone b z) s
  | _, _ => s

/-! ### The Loader -/

/-- R137: the Loader returns to IDLE; the length and the serial become 0 (log 40), and the stopped timer holds
0 (log 52). -/
def State.idleLoader (s : State) : State := { s with loader := .initial }

/-- R138: RULESET_START from position `p`. The end of the frame in progress does not lower the new timer (R139); while a
boundary is due, that frame has ended (log 34). -/
def rulesetStart (p : Pos) (length : BitVec 16) (units : Byte) (serial : BitVec 32) (s : State) : State × Reply :=
  match posCtl p with
  | none => refuse s .notPermitted
  | some c =>
    let l := length.toNat
    let u := units.toNat
    if !(decide (12 ≤ l) && decide (l ≤ 524) && (l - 12) % 8 == 0 && decide (1 ≤ u) && decide (u ≤ 63)) then
      refuse s .outOfRange
    else if s.loader.state ≠ .idle && s.loader.claimer ≠ some c then refuse s .busy
    else if s.loader.state = .verifying then refuse s .busy
    else
      accept { s with loader := { state := .loading, claimer := some c, length := l, serial := serial, buffer := [],
                                  timer := u * 100, fresh := decide (s.time.due = .nothing) } }
        (beBytes 2 l ++ beBytes 2 (u * 100))

/-- R138 to R142: the answer to a Loader request that is not from the claimer of a load in LOADING; none when it
is. `verifying` is the answer to the claimer in VERIFYING. -/
def loaderGate (p : Pos) (verifying : Code) (s : State) : Option Code :=
  match posCtl p with
  | none => some .notPermitted
  | some c =>
    if s.loader.state = .idle then some .wrongState
    else if s.loader.claimer ≠ some c then some .busy
    else if s.loader.state = .verifying then some verifying
    else none

/-- R137: the pointer. -/
def Loader.pointer (l : Loader) : Nat := l.buffer.length

/-- R141: RULESET_DATA from position `p`. -/
def rulesetData (p : Pos) (bytes : List Byte) (s : State) : State × Reply :=
  if posCtl p = none then refuse s .notPermitted
  else if bytes.isEmpty || decide (16 < bytes.length) then refuse s .outOfRange
  else match loaderGate p .wrongState s with
    | some c => refuse s c
    | none =>
      if s.loader.length < s.loader.pointer + bytes.length then
        (s, { code := .overrun, content := beBytes 2 s.loader.pointer })
      else
        let s := { s with loader := { s.loader with buffer := s.loader.buffer ++ bytes } }
        accept s (beBytes 2 s.loader.pointer)

/-- R142: RULESET_FINISH from position `p`. The answer of a FINISH that is taken is withheld. DESIGN CHOICE (unsafe): the
stopped timer holds 0 (log 52). -/
def rulesetFinish (p : Pos) (s : State) : State × Reply :=
  match loaderGate p .wrongState s with
  | some c => refuse s c
  | none =>
    if s.loader.pointer < s.loader.length then (s, { code := .short, content := beBytes 2 s.loader.pointer })
    else ({ s with loader := { s.loader with state := .verifying, timer := 0 } },
          { code := .accepted, withheld := true })

/-- R140: RULESET_ABANDON from position `p`. -/
def rulesetAbandon (p : Pos) (s : State) : State × Reply :=
  match loaderGate p .tooLate s with
  | some c => refuse s c
  | none => accept s.idleLoader

/-- R139: the load times out. -/
def State.timeOutLoad (s : State) : State :=
  let n := Notice.rulesetTimeout s.loader.serial s.loader.pointer
  match s.loader.claimer with
  | some c => s.idleLoader.notifyOne (ctlPos c) n
  | none => s.idleLoader

/-- R139: the timer's tick at a frame end, but for that of the frame of the claim or restart. -/
def State.tickLoader (s : State) : State :=
  if s.loader.state = .loading && !s.loader.fresh
  then { s with loader := { s.loader with timer := s.loader.timer - 1 } } else s

/-- R139: the frame of the claim or restart has ended. -/
def State.settleLoader (s : State) : State := { s with loader := { s.loader with fresh := false } }

/-- R139: a load whose timer stands at 0 has timed out. -/
def State.expireLoader (s : State) : State :=
  if s.loader.state = .loading && s.loader.timer == 0 then s.timeOutLoad else s

/-- R139: the tick that brings the timer to 0; before that tick nothing happens (log 4). -/
def loadTimedOut (s : State) : State :=
  if s.loader.state = .loading && decide (s.loader.timer ≤ 1) then s.timeOutLoad else s

/-- R140: the departure of the claimer abandons the load. -/
def State.departLoader (p : Pos) (s : State) : State :=
  match s.loader.claimer with
  | some c => if ctlPos c = p then s.idleLoader else s
  | none => s

/-! ### Verification -/

/-- R143: the polynomial's lower terms in reflected order. -/
def crcPolynomial : BitVec 32 := 0xEDB88320

/-- R143: one bit of the register. -/
def crcBit (r : BitVec 32) : BitVec 32 := if r.getLsbD 0 then (r >>> 1) ^^^ crcPolynomial else r >>> 1

/-- R143: one byte, least significant bit first. -/
def crcByte (r : BitVec 32) (b : Byte) : BitVec 32 :=
  let x := r ^^^ b.setWidth 32
  crcBit (crcBit (crcBit (crcBit (crcBit (crcBit (crcBit (crcBit x)))))))

/-- R143: the check value of bytes. -/
def crc32 (l : List Byte) : BitVec 32 := ~~~ (l.foldl crcByte (BitVec.allOnes 32))

/-- R189: byte `k` of an image. -/
def byteAt (l : List Byte) (k : Nat) : Byte := l.getD k 0

/-- R189: transition `i` of an image, skipped flag clear. -/
def imageTransition (l : List Byte) (i : Nat) : Transition :=
  { zone := (byteAt l (8 + 8 * i)).toNat
    offset := (BitVec.ofNat 16 (beNat ((l.drop (9 + 8 * i)).take 2))).toInt
    instant := beNat ((l.drop (11 + 8 * i)).take 5)
    skipped := false }

/-- R144, items 5 to 7: a transition after the one before it. -/
def transitionOk (prev : Option Transition) (x : Transition) : Bool :=
  decide (1 ≤ x.zone) && decide (x.zone ≤ 15) && decide (-720 ≤ x.offset) && decide (x.offset ≤ 840) &&
  (match prev with
    | none => true
    | some y => decide (y.zone < x.zone) || (y.zone == x.zone && decide (y.instant < x.instant)))

/-- R144: the index of the first transition that fails, counting from `i`. -/
def firstBad (prev : Option Transition) (i : Nat) : List Transition → Option Nat
  | [] => none
  | x :: xs => if transitionOk prev x then firstBad (some x) (i + 1) xs else some i

/-- R189: a transition as an image carries it. -/
def Transition.bytes (x : Transition) : List Byte := oneByte x.zone ++ signed16 x.offset ++ beBytes 5 x.instant

/-- R189: the bytes that the check value covers: version, count, serial, flags and transitions. -/
def imageBody (serial : BitVec 32) (xs : List Transition) : List Byte :=
  oneByte 1 ++ oneByte xs.length ++ beBytes 4 serial.toNat ++ beBytes 2 0 ++ xs.flatMap Transition.bytes

/-- R189: a rule set image. -/
def ruleImage (serial : BitVec 32) (xs : List Transition) : List Byte :=
  imageBody serial xs ++ beBytes 4 (crc32 (imageBody serial xs)).toNat

/-- R143, R144: the verdict on a staged image: the rule set to install, or a code and an entry index. -/
def verdict (l : Loader) : Except (Code × Nat) RuleStore :=
  let b := l.buffer
  if beNat (b.drop (l.length - 4)) ≠ (crc32 (b.take (l.length - 4))).toNat then .error (.checkFailed, 255)
  else
    let n := (byteAt b 1).toNat
    if byteAt b 0 ≠ 1 || n != (l.length - 12) / 8 ||
        beNat ((b.drop 2).take 4) != l.serial.toNat || beNat ((b.drop 6).take 2) != 0 then
      .error (.badContent, 255)
    else
      let xs := (List.range n).map (imageTransition b)
      match firstBad none 0 xs with
      | some i => .error (.badContent, i)
      | none => .ok { serial := l.serial, transitions := xs }

/-- R143, R145: the verdict becomes the claimer's response, no longer withheld. -/
def State.answerClaimer (code : Code) (content : List Byte) (s : State) : State :=
  match s.loader.claimer with
  | none => s
  | some c =>
    let l := s.lane (ctlPos c)
    s.setLane (ctlPos c) { l with
      owed := l.owed.map fun r => { r with code := code, content := content, withheld := false } }

/-- R145, steps 1 and 2: install. DESIGN CHOICE (unsafe): R145 does not order the records it removes; they are withdrawn one
after the other, each with its WITHDRAWN notice, in schedule order (log 70). -/
def State.install (r : RuleStore) (s : State) : State :=
  let s := { s with rules := r }
  let old := s.records.filter fun x => x.origin == .ruleset && x.change.isShift && x.state != .armed
  old.foldl (fun a x => a.withdraw x .replaced) s

/-- R143 to R145: verification at the first boundary after a FINISH. -/
def State.boundaryVerify (s : State) : State :=
  if s.loader.state = .verifying then
    match verdict s.loader with
    | .ok r =>
      ((s.install r).answerClaimer .accepted (beBytes 4 r.serial.toNat ++ oneByte r.transitions.length)).idleLoader
    | .error (c, i) => (s.answerClaimer c (oneByte i)).idleLoader
  else s

end Sys2Proof.Machine
end

