-- ==== Sys2Proof/Machine/Queries.lean ====
section
/-! DEFINITION. QUERY: what each subject answers (R170, R187). A field whose value is absent is sent as 0
(log 25). -/

namespace Sys2Proof.Machine

/-! ### SCHEDULE -/

/-- R187: key and value of a record, bytes 3 to 5. -/
def Change.valueBytes : Change → List Byte
  | .leap _ e => beBytes 3 e
  | .baseline x => beBytes 3 x
  | .shift z o _ => oneByte z ++ signed16 o

/-- R187: bytes 19 to 22: the instant less the window's start, and the window's length. -/
def Record.windowBytes (r : Record) : List Byte :=
  match r.window, r.affected with
  | some w, some a => beBytes 4 ((instantOf r.change a - w.start) * 2 ^ 19 + w.length)
  | _, _ => beBytes 4 0

/-- R90, R187: the roll-call result that a record shows: its group's while ARMED, its own while SETTLING. -/
def State.rollOf (s : State) (r : Record) : Option Roll :=
  if r.state = .armed then (s.scale.groups.find? fun g => r.tag == some g.tag).bind Group.roll else r.roll

/-- R187: twelve results of two bits each, position 0 first. -/
def rollBytes (roll : Option Roll) : List Byte :=
  beBytes 3 (allPos.foldl (fun v p => v * 4 + rollNumber (roll.map fun r => r.get p)) 0)

/-- R187: a record in 27 bytes. -/
def State.recordBytes (s : State) (r : Record) : List Byte :=
  oneByte r.id ++
  oneByte (r.change.kindNumber * 64 + r.state.number * 8 + r.origin.number * 2 + flagAt 0 r.restored) ++
  oneByte (flagAt 7 r.late + (r.preContest.map RecordState.number).getD 0 * 32 + r.tag.getD 0 * 2) ++
  r.change.valueBytes ++ timeBytes r.affected ++
  oneByte r.vouch ++ oneByte r.oppose ++ oneByte s.sched.agreement ++ timeBytes r.created ++
  r.windowBytes ++ oneByte ((r.window.map Window.dOld).getD 0) ++ rollBytes (s.rollOf r)

/-- R187: an item of the withdrawn list. -/
def Listed.bytes (x : Listed) : List Byte :=
  oneByte x.change.kindNumber ++ x.change.keyBytes ++ oneByte x.reason.number ++ timeBytes x.since

/-- R170: what a subject holds at an index. -/
abbrev Content := Except Code (List Byte)

/-- The content found, or NOT_FOUND. -/
def found (x : Option (List Byte)) : Content :=
  match x with
  | some b => .ok b
  | none => .error .notFound

/-- R170: subject SCHEDULE. -/
def querySchedule (s : State) (i : Nat) : Content :=
  if i < 20 then found ((s.records[i]?).map s.recordBytes)
  else if i < 32 then .error .outOfRange
  else if i < 40 then found ((s.sched.listed.reverse[i - 32]?).map Listed.bytes)
  else .error .outOfRange

/-! ### The other subjects -/

/-- R51, R170: subject SOURCE. -/
def querySource (s : State) (i : Nat) : Content :=
  if h : i < 16 then
    let e := s.source ⟨i, h⟩
    if e.state = .free then .error .notFound else .ok (e.bytes ⟨i, h⟩ (e.spent s.time.t))
  else .error .outOfRange

/-- R187: the tracker of a controller position in six bytes after its role. -/
def Tracker.bytes (k : Tracker) : List Byte :=
  oneByte k.mode.number ++ beBytes 2 (k.candidate.getD 65535) ++ oneByte k.run ++ oneByte k.misses

/-- R116, R170: subject POSITION. -/
def queryPosition (s : State) (i : Nat) : Content :=
  if h : i < 12 then
    let p : Pos := ⟨i, h⟩
    let x := s.pos p
    .ok (oneByte i ++ oneByte x.state.number ++ oneByte x.intent.number ++ [x.held.getD 0] ++
      flagByte x.held.isSome ++ oneByte x.ready ++ oneByte x.lag ++ oneByte x.mode.number ++ oneByte x.zone.val ++
      beBytes 2 (s.rehearsal.detail.get p).latency ++
      (match posCtl p with
        | some c => oneByte x.role.number ++ (s.time.tracker c).bytes
        | none => beBytes 6 0))
  else .error .outOfRange

/-- R83, R170: subject HISTORY, 0 the newest. -/
def queryHistory (s : State) (i : Nat) : Content :=
  if i < 8 then found ((s.scale.history.reverse[i]?).map HistoryEntry.bytes) else .error .outOfRange

/-- R169, R170: subject CONFIG. -/
def queryConfig (s : State) (i : Nat) : Content :=
  if h : i < 12 then
    let pending := s.settings.pending.get ⟨i, h⟩
    .ok (oneByte i ++ beBytes 4 (s.value ⟨i, h⟩) ++ flagByte pending.isSome ++ beBytes 4 (pending.getD 0))
  else .error .outOfRange

/-- R129, R170: subject ZONE. -/
def queryZone (s : State) (i : Nat) : Content :=
  if h : i < 16 then
    let r := s.zoneRecord i
    .ok (oneByte i ++ signed16 (s.zones.get ⟨i, h⟩) ++ oneByte ((r.map Record.id).getD 0) ++
      oneByte ((r.map fun r => r.state.number).getD 0))
  else .error .outOfRange

/-- R133, R170: subject RULESET. -/
def queryRuleset (s : State) (i : Nat) : Content :=
  if i < 64 then
    found ((s.rules.transitions[i]?).map fun x =>
      oneByte i ++ oneByte x.zone ++ signed16 x.offset ++ beBytes 5 x.instant ++ flagByte x.skipped ++
      beBytes 4 s.rules.serial.toNat ++ oneByte s.rules.transitions.length)
  else .error .outOfRange

/-- R184: the outcome of the last result. -/
def outcomeNumber : Option RehearsalResult → Nat
  | none => 0
  | some r => if r.completed then 1 else 2

/-- R128, R170: subject REHEARSAL. -/
def queryRehearsal (s : State) (i : Nat) : Content :=
  if h : i < 12 then
    let r := s.rehearsal
    let d := r.detail.get ⟨i, h⟩
    if r.phase = .none && r.result.isNone then .error .notFound
    else .ok (oneByte r.phase.number ++ beBytes 2 r.span ++ oneByte (r.tag.getD 0) ++ timeBytes r.armedAt ++
      timeBytes r.affected ++ oneByte (outcomeNumber r.result) ++
      oneByte ((r.result.map RehearsalResult.ready).getD 0) ++
      oneByte ((r.result.map RehearsalResult.notReady).getD 0) ++
      beBytes 2 d.latency ++ flagByte d.reached ++ oneByte (rollNumber d.roll))
  else .error .outOfRange

/-- R170: the content of a subject at an index. -/
def content (s : State) (subject : Byte) (i : Nat) : Content :=
  if subject = 0 then querySchedule s i
  else if subject = 1 then querySource s i
  else if subject = 2 then queryPosition s i
  else if subject = 3 then queryHistory s i
  else if subject = 4 then queryConfig s i
  else if subject = 5 then queryZone s i
  else if subject = 6 then queryRuleset s i
  else if subject = 7 then queryRehearsal s i
  else .error .outOfRange

/-- R170, R186: QUERY. -/
def query (subject index : Byte) (s : State) : State × Reply :=
  match content s subject index.toNat with
  | .ok b => accept s ([index] ++ b)
  | .error c => refuse s c

end Sys2Proof.Machine
end

