-- ==== Sys2Proof/Machine/Requests.lean ====
section
/-! DEFINITION. Requests handed to their owners: CONFIGURE (R169), the routing of R168, and the response that a
lane then owes (R165, R166, R186). -/

namespace Sys2Proof.Machine

/-! ### CONFIGURE -/

/-- R169, step 4: a value clamped into its parameter's range. -/
def clampParam (k : Config.Param) (v : Nat) : Nat :=
  max (Config.rows.get k).low (min (Config.rows.get k).high v)

/-- R169: CONFIGURE from position `p`. -/
def configure (p : Pos) (param : Byte) (value : BitVec 32) (s : State) : State × Reply :=
  if !s.holdsLead p then refuse s .notPermitted
  else if h : param.toNat < 12 then
    let k : Config.Param := ⟨param.toNat, h⟩
    if k = Config.placement && decide (1 < value.toNat) then refuse s .outOfRange
    else
      let v := clampParam k value.toNat
      accept (s.setSettings { s.settings with pending := s.settings.pending.put k (some v) })
        ([param] ++ beBytes 4 v)
  else refuse s .outOfRange

/-! ### Routing -/

/-- R184: the action of a MUTE_SOURCE. -/
def muteAction (a : Byte) : Option Bool := if a = 0 then some true else if a = 1 then some false else none

/-- R165, R168: a request from position `p` judged by its owner; `leaving` where the position departs in this frame
(R45). -/
def perform (leaving : Bool) (p : Pos) (r : Request) (s : State) : State × Reply :=
  match r with
  | .announce o d k i => announce leaving p o d k i s
  | .setTime x => setTime p x s
  | .setOffset v => setOffset p v s
  | .confirm id => confirm p id s
  | .withdraw id => withdrawRequest p id s
  | .shiftZone z o i => shiftZone p z o i s
  | .configure k v => configure p k v s
  | .setPosition q m z => setPosition p q m z s
  | .muteSource q o a => muteSource p q o (muteAction a) s
  | .clearScale => clearScale p s
  | .rulesetStart l u n => rulesetStart p l u n s
  | .rulesetData b => rulesetData p b s
  | .rulesetFinish => rulesetFinish p s
  | .rulesetAbandon => rulesetAbandon p s
  | .rehearse n => rehearse p n s
  | .rehearsalCancel => rehearsalCancel p s
  | .query k i => query k i s

/-- R167, R186: the response to a request. -/
def Request.response (r : Request) (a : Reply) : Response :=
  { code := a.code, kind := r.kind, subject := r.subject, content := a.content, withheld := a.withheld }

/-- R165, R166: the lane of position `p` owes a response and is HELD. -/
def State.owe (p : Pos) (r : Response) (s : State) : State := s.setLane p ((s.lane p).owe r)

/-- R165: a request from position `p` is judged, and its response is owed. -/
def State.takeRequest (leaving : Bool) (p : Pos) (r : Request) (s : State) : State :=
  (perform leaving p r s).1.owe p (r.response (perform leaving p r s).2)

/-! ### A parcel taken whole -/

/-- R160, R162: position `p` can begin a parcel: its lane is OPEN, in a frame up to 948. -/
def State.hears (p : Pos) (s : State) : Bool :=
  s.running && decide (s.time.frame ≤ Config.lastOpeningFrame) && s.occupied p && decide ((s.lane p).inbound = .opened)

/-- R160: the lane's take toggle after `n` bytes have been taken. -/
def State.passBytes (p : Pos) (n : Nat) (s : State) : State :=
  let l := s.lane p
  s.setLane p { l with take := if n % 2 = 1 then !l.take else l.take }

end Sys2Proof.Machine
end

