-- ==== Sys2Proof/Machine/Labels.lean ====
section
/-! DEFINITION. The Label Unit: R23 to R26, R31 and R32. -/

namespace Sys2Proof.Machine

/-! ### Labels of the second -/

/-- R23 to R25: the UTC day and the second of day. -/
def State.dayAndSecond (s : State) : Nat × Nat :=
  match s.time.t, s.scale.d, s.scale.inserting with
  | some _, some _, some e => (e - 1, Config.dayLength)
  | some t, some d, none => ((t - d) / Config.dayLength, (t - d) % Config.dayLength)
  | _, _, _ => (0, 0)

/-- R24, R25: the INSERTING indicator as shown. -/
def State.showsInserting (s : State) : Bool := decide (s.status = .scaled) && s.scale.inserting.isSome

/-- R26: the countdown. -/
def State.countdown (s : State) : Nat :=
  match s.time.t, s.nextGroup with
  | some t, some g => min Config.count16 (g.affected - t)
  | _, _ => 0

/-- R26: the kinds of the next group; all clear for the rehearsal group. -/
def State.nextKinds (s : State) : GroupKinds :=
  match s.nextGroup with
  | some g => if g.rehearsal then ⟨false, false, false, false⟩ else s.kindsOf g.tag
  | none => ⟨false, false, false, false⟩

/-! ### Offset pairs -/

/-- R31: what an armed record does to the offset of the boundary that applies it. -/
def Record.foresee (d : Option Nat) (r : Record) : Option Nat :=
  match r.change with
  | .leap .delete _ => d.map fun x => if leapInRange .delete x then x - 1 else x
  | .baseline x => some x
  | _ => d

/-- R31: D at the next boundary, given the groups armed now (log 19 where T holds at its maximum). -/
def State.nextD (s : State) : Option Nat :=
  let d := if s.scale.inserting.isSome then s.scale.d.map (· + 1) else s.scale.d
  match s.time.t with
  | none => d
  | some t =>
    let due := s.records.filter fun r => r.state == .armed && r.affected == some (t + 1)
    due.foldl Record.foresee d

/-- R31: the pair of a STEP position. -/
def State.stepPair (s : State) : Pair := ⟨s.nextD.getD 0, 0⟩

/-- R30: the progress of an open window at boundary `t`. -/
def Window.progress (w : Window) (t : Nat) : Nat := min (t - w.start) w.length * 1000000000 / w.length

/-- R32: the pair that an open window shows at boundary `t`. -/
def Window.pair (k : LeapKind) (w : Window) (t : Nat) : Pair :=
  let r := w.progress t
  match k with
  | .insert => if r < 1000000000 then ⟨w.dOld, r⟩ else ⟨w.dOld + 1, 0⟩
  | .delete => if r = 0 then ⟨w.dOld, 0⟩ else ⟨w.dOld - 1, 1000000000 - r⟩

/-- R32: the window contains boundary `t`. -/
def Window.contains (w : Window) (t : Nat) : Bool := decide (w.start ≤ t) && decide (t < w.stop)

/-- R32: what a record shows at boundary `t`: its pair, if it is a leap, ARMED or SETTLING, whose window
contains `t`. -/
def Record.smearPair (t : Nat) (r : Record) : Option Pair :=
  match r.change, r.window with
  | .leap k _, some w => if r.leapBusy && w.contains t then some (w.pair k t) else none
  | _, _ => none

/-- R32: the pair of a SMEAR position. -/
def State.smearPair (s : State) : Pair :=
  match s.time.t, s.nextD with
  | some t, some _ => (s.records.findSome? (Record.smearPair (nextT t))).getD s.stepPair
  | _, _ => s.stepPair

/-- R31, R32: the pair of a position. -/
def State.pairOf (s : State) (p : Pos) : Pair :=
  match (s.pos p).mode with
  | .step => s.stepPair
  | .smear => s.smearPair

/-! ### The boundary's work -/

/-- R23 to R26, R31: everything the Label Unit computes at a boundary. -/
def State.labelled (s : State) : Labels :=
  { day := s.dayAndSecond.1
    second := s.dayAndSecond.2
    inserting := s.showsInserting
    countdown := s.countdown
    kinds := s.nextKinds
    tag := (s.nextGroup.map NextGroup.tag).getD 0
    rehearsal := (s.nextGroup.map NextGroup.rehearsal).getD false
    pairs := .build 12 s.pairOf }

/-- R23: the Label Unit's work at a boundary. -/
def State.boundaryLabels (s : State) : State := s.setLabels s.labelled

end Sys2Proof.Machine
end

