-- ==== Sys2Proof/Machine/Segments.lean ====
section
/-! DEFINITION. The scale word and the return sub-segments: what each field shows (R3, R14, R112, R149 to R154, R157,
R183), and what the device drives through a frame (R148). -/

namespace Sys2Proof.Machine

/-! ### Fields -/

/-- R112, R151: the report code of position `p`. -/
def State.reportCode (s : State) (p : Pos) : Nat :=
  match (s.pos p).state with
  | .empty => 0
  | .joining => 1
  | .inStep => if s.isReady p then 3 else 2
  | .lagging => 4
  | .dropped => 5

/-- R14, R152: the role outcome of position `p`. -/
def State.roleOutcome (s : State) (p : Pos) : Nat :=
  match posCtl p with
  | none => 0
  | some _ =>
    if !s.occupied p then 0
    else match (s.pos p).role with
      | .none => 0
      | .standby => 1
      | .lead => if s.holdsLead p then 2 else if s.time.holder.isSome then 3 else 0

/-- R14, R150: the lead lock field. -/
def State.leadLock (s : State) : Nat :=
  match s.time.holder with
  | some c => (s.time.tracker c).mode.number
  | none => 0

/-- R150, R157: the quiet field. -/
def State.quiet (s : State) : Bool := decide (Config.quietFrame ≤ s.time.frame)

/-- A field of `w` bits. -/
def field (w v : Nat) : BitVec w := BitVec.ofNat w v

/-- A field of one bit. -/
def bit (b : Bool) : BitVec 1 := BitVec.ofBool b

/-! ### Segments -/

/-- R149, R150, R183: the scale word. -/
def State.scaleWord (s : State) : BitVec 160 :=
  let l := s.labels
  field 40 (s.time.t.getD 0) ++ field 10 s.time.frame ++ field 2 s.status.number ++ bit s.scale.provisional ++
  field 2 (holderNumber s.time.holder) ++ field 2 s.leadLock ++ field 8 (s.scale.d.getD 0) ++ s.g8 ++
  field 24 l.day ++ field 17 l.second ++ bit l.inserting ++
  bit l.kinds.insert ++ bit l.kinds.delete ++ bit l.kinds.baseline ++ bit l.kinds.shift ++
  field 4 l.tag ++ field 16 l.countdown ++ bit l.rehearsal ++ bit s.quiet ++ field 19 0

/-- R154, R157: the lane fields are driven 0 for an EMPTY position and in the quiet frames. -/
def State.laneShown (s : State) (p : Pos) : Bool := s.occupied p && !s.quiet

/-- R154, R183: lane byte, offer toggle, last and take toggle. -/
def State.laneFields (s : State) (p : Pos) : BitVec 11 :=
  let l := s.lane p
  if s.laneShown p then l.outByte.1 ++ bit l.offer ++ bit l.outByte.2 ++ bit l.take else 0

/-- R130, R153: the current offset of the position's zone. -/
def State.zoneOffset (s : State) (p : Pos) : Int := s.zones.get (s.pos p).zone

/-- R151 to R154, R183: the return sub-segment of position `p`. -/
def State.returnSegment (s : State) (p : Pos) : BitVec 96 :=
  let pair := s.labels.pairs.get p
  field 4 (s.reportCode p) ++ field 2 (s.roleOutcome p) ++ BitVec.ofInt 11 (s.zoneOffset p) ++
  field 8 pair.seconds ++ field 30 pair.nanos ++ s.laneFields p ++ field 30 0

/-! ### A frame's content -/

/-- R148: what a frame that begins in state `s` shows. -/
def State.frameContent (s : State) : Shown := { word := s.scaleWord, segments := .build 12 s.returnSegment }

/-- R148: a frame begins: every field holds the value of this moment for the whole of it. -/
def State.latch (s : State) : State := s.setBus s.frameContent

/-- R161, R173: a parcel that begins on the lane of position `p` in the frame in progress shows its first byte, its last
flag and the inverted offer toggle there; the rest of the sub-segment stands. -/
def State.latchOut (p : Pos) (s : State) : State :=
  let v := s.bus.segments.get p
  let l := s.lane p
  s.setBus { s.bus with
    segments := s.bus.segments.put p
      (v.extractLsb' 41 55 ++ (l.outByte.1 ++ bit l.offer ++ bit l.outByte.2) ++ v.extractLsb' 0 31) }

end Sys2Proof.Machine
end

