-- ==== Sys2Proof/Machine/Store.lean ====
section
/-! DEFINITION. The Retained Store and start-up: R162, R175 to R180. -/

namespace Sys2Proof.Machine

/-! ### The copy -/

/-- R175: the states in which the store holds a record. -/
def Record.isRetained (r : Record) : Bool := r.state == .qualified || r.state == .held || r.state == .armed

/-- R175: a record as the store holds it. -/
def Record.retained (r : Record) : RetainedRecord :=
  { id := r.id, change := r.change, origin := r.origin, state := r.state, created := r.created, ref := r.ref }

/-- R175: D as the store holds it: one above the register through an inserted second (R80; log 54). -/
def State.retainedD (s : State) : Option Nat :=
  if s.scale.inserting.isSome then s.scale.d.map (· + 1) else s.scale.d

/-- R175: every item as its owner holds it. -/
def State.image (s : State) : Retained :=
  { d := s.retainedD
    g := s.scale.g
    history := s.scale.history
    records := (s.records.filter Record.isRetained).map Record.retained
    zones := s.zones
    rules := s.rules
    values := s.settings.values
    positions := s.roster.map fun x => (x.mode, x.zone) }

/-- R175, R176: the writes of one event, made together (log 27). -/
def State.sync (s : State) : State := s.setStore { s.store with copy := s.image }

/-- The end of an event: the boards hold the offers that are wanted (R113), which join and leave after the event's other
notices (log 38), and the store has taken the event's writes (R176). -/
def State.finish (s : State) : State := s.refreshOffers.sync

/-- R177: the check of the indicator at a boundary. One more boundary has found VBAK low, where it is low
(log 7). -/
def State.checkBackup (s : State) : State :=
  let good := s.store.good || (s.pins.powered && s.pins.vbakLowFor == 0)
  (s.setStore { s.store with good := good }).setPins { s.pins with vbakLowFor := s.pins.vbakLowFor - 1 }

/-! ### Start-up -/

/-- R179: a record of the copy restored on the restored offset `d`. -/
def RetainedRecord.restore (d : Option Nat) (r : RetainedRecord) : Record :=
  { id := r.id
    change := r.change
    affected := match r.change with
      | .leap k e => d.map (leapAffected k e)
      | .baseline _ => none
      | .shift _ _ i => some i
    origin := r.origin
    state := if r.state = .armed then .qualified else r.state
    preContest := none, vouch := 0, oppose := 0, restored := true, late := false, tag := none, window := none,
    created := r.created, ref := r.ref, roll := none }

/-- R54, R78, R179: the schedule after start-up; the id cursor is the highest restored id. -/
def Retained.schedule (c : Retained) : Schedule :=
  { Schedule.initial with
    records := sortBy Record.before (c.records.map (RetainedRecord.restore c.d))
    cursor := (c.records.map RetainedRecord.id).foldl max 0 }

/-- R79, R178: the scale register after start-up. -/
def Retained.scale (c : Retained) : Scale :=
  { Scale.initial with d := c.d, provisional := c.d.isSome, g := c.g, history := c.history }

/-- R162, R178, R180: every block's start-up values, with the retained items of `c`. -/
def State.startFrom (c : Retained) (s : State) : State :=
  { pins := s.pins
    time := .initial
    labels := .initial
    sources := .fill 16 .initial
    sched := c.schedule
    scale := c.scale
    rehearsal := .initial
    roster := c.positions.map fun x => Position.initial x.1 x.2
    zones := c.zones.put 0 0
    rules := c.rules
    loader := .initial
    lanes := .fill 12 .initial
    settings := { values := c.values, pending := .fill 12 none }
    store := s.store
    bus := s.bus
    moment := 0
    pending := s.pending }

/-- R178, R180: the copy that a start-up reads: the store's with the indicator set, the defaults without. -/
def Store.source (c : Store) : Retained := if c.good then c.copy else .initial

end Sys2Proof.Machine
end

