-- ==== Sys2Proof/Machine/Boundary.lean ====
section
/-! DEFINITION. The second boundary, the quiet frames, the realignment and start-up: R2, R9, R17, R84, R98, R157,
R159, R169. -/

namespace Sys2Proof.Machine

/-! ### The boundary -/

/-- R169: the pending configuration values take effect. -/
def Settings.apply (c : Settings) : Settings :=
  { values := .build 12 fun k => (c.pending.get k).getD (c.values.get k), pending := .fill 12 none }

/-- R2, R118, R169: T of the second that begins, the configuration and the position settings in effect from it. -/
def State.boundaryInputs (s : State) : State :=
  ((s.setTime s.time.advance).setSettings s.settings.apply).boundarySettings

/-- R17: the rehearsal group moved by a re-time from `old`. DESIGN CHOICE (unsafe): R17 and R126 do not place this move, nor the
cancellation of a rehearsal it carries out of range, within the boundary; it comes right after T, before the Source Table's work
and step 1 of R84 (log 57). -/
def State.boundaryMove (old : Option Nat) (retime : Bool) (s : State) : State :=
  match retime, old, s.time.t with
  | true, some t, some x => s.moveRehearsal t x
  | _, _, _ => s

/-- R84, steps 1 to 5. -/
def State.boundaryScale (retime : Bool) (s : State) : State :=
  s.boundaryClear.boundaryInserted.boundaryProvisional.boundarySettling.boundaryApply retime

/-- R84, steps 6 and 7, not taken while T is unknown. -/
def State.boundaryArm (retime : Bool) (s : State) : State :=
  match s.time.t with
  | some t => (s.missedPass t retime).armingPass t
  | none => s

/-- R1: frame 0 of the second that begins; the frame of a claim or restart of a load is over (R139). -/
def State.beginSecond (s : State) : State :=
  (s.setTime { s.time with frame := 0, busClock := 0, due := .nothing }).settleLoader

/-- R84: the blocks' work at a second boundary, in its order: T (R2) and what takes effect with it; the Source
Table (R42, R47; log 13); steps 1 to 5; verification (R143); the draw pass (R135); the tally (R57); steps 6 and 7;
the Roster (R105, R108 to R110); the Label Unit (R23); the store's check (R177). Frame 0 shows the second whole
(R148). DESIGN CHOICE (unsafe): no rule places the move of a rehearsal (log 57) among the blocks' work, nor the Roster's, which
needs G alone of the steps before it (R105) and comes last of those that queue notices (log 59). -/
def State.boundary (s : State) : State :=
  let old := s.time.t
  let retime := s.time.retimes
  let g := s.scale.g
  let cleared := s.scale.clearPending
  let k := s.value Config.persistence
  let r := s.nextMoment.boundaryInputs.boundaryMove old retime
  let a := r.boundarySources old (decide (r.value Config.persistence ≠ k))
  let b := (((a.boundaryScale retime).boundaryVerify).drawPass cleared).tally
  let c := b.boundaryArm retime
  let d := c.boundaryRoster (decide (c.scale.g ≠ g))
  d.boundaryLabels.checkBackup.beginSecond.finish.latch

/-! ### The quiet frames -/

/-- R90, R123, R157, R163: the start of frame 980: roll calls, and every lane reset. What has been done is not
done again. -/
def State.quietStart (s : State) : State := s.nextMoment.rollCalls.resetLanes.finish

/-- R148, R157: frame 980 begins: it shows the state as it stands before the roll calls. -/
def State.openQuiet (s : State) : State := s.latch.quietStart

/-- R157: the device goes to frame 980, where it is not there yet. -/
def State.beginQuiet (s : State) : State :=
  if s.time.frame < Config.quietFrame
  then ((s.setTime { s.time with frame := Config.quietFrame, busClock := 0 }).settleLoader).openQuiet
  else s.quietStart

/-! ### Realignment -/

/-- R9: the frame that would have been frame `p` becomes frame 0: the roll calls of the cut second, the lanes, the
trackers, TIME_SLIP, and the boundary. DESIGN CHOICE (unsafe): R9 does not place TIME_SLIP among the notices of its
realignment; it joins after the SLOT_STATEs of the roll calls, in their moment, and before the boundary's work, whose notices
join in a later one (log 56). An offer that the roll calls or the lane reset make needed joins at the boundary's end (log 39). -/
def State.realign (p : Nat) (s : State) : State :=
  let s := s.nextMoment.rollCalls.resetLanes
  ((s.setTime (s.time.shift p)).noteSlip p).boundary

/-- What stands between the frame that has ended and the next one is done (log 3). -/
def State.settle (s : State) : State :=
  match s.time.due with
  | .nothing => s
  | .second => s.boundary
  | .realign p => s.realign p

/-! ### Start-up -/

/-- R159, R178, R180: start-up, and the boundary of frame 0. -/
def State.startUp (s : State) : State := { ((s.startFrom s.store.source).boundary) with moment := 0 }

end Sys2Proof.Machine
end

