-- ==== Sys2Proof/Machine/Frame.lean ====
section
/-! DEFINITION. The end of a frame (R148): the lanes, the requests completed, the Roster, the trackers, the lead and
the timers. Where the rules leave open what is taken first, the command's `FrameOrder` says it (log 6). -/

namespace Sys2Proof.Machine

/-! ### The segments -/

/-- The card segment of position `p` in a frame; what no card drives reads as ones (R156). -/
def segmentOf (segs : List (BitVec 48)) (p : Pos) : CardSegment := readSegment (segs.getD p.val undriven)

/-! ### Lanes -/

/-- R160, R161: the lane of position `p` at the end of frame `f`: outbound first, then inbound (R166). The lane bits
of an EMPTY position and of a quiet frame are not read; the position is read as the frame began (log 42). -/
def laneFrame (f : Nat) (occupied : Bool) (c : CardSegment) (l : Lane) : Lane × Arrival :=
  if occupied && decide (f < Config.quietFrame)
  then (l.answer c.take).hear f c.laneByte c.last c.offer else (l, none)

/-- R160, R161: every lane at the end of the frame in progress. -/
def State.hearLanes (segs : List (BitVec 48)) (s : State) : State :=
  s.setLanes (.build 12 fun p => (laneFrame s.time.frame (s.occupied p) (segmentOf segs p) (s.lane p)).1)

/-- A request that a frame completed, with its sender. -/
abbrev Arrived := Pos × Request

/-- R164, R165: the well-formed parcels that the frame completes, in ascending order of position. -/
def State.arrivals (segs : List (BitVec 48)) (s : State) : List (Pos × Byte × List Byte) :=
  allPos.filterMap fun p =>
    ((laneFrame s.time.frame (s.occupied p) (segmentOf segs p) (s.lane p)).2).map fun a => (p, a)

/-- R165: the response to a parcel that is no request. -/
def formResponse (kind : Byte) (c : Code) : Response :=
  if c = .badForm then badFormResponse kind
  else { code := c, kind := kind, subject := 0, content := [], withheld := false }

/-- R165: the parcels that are no requests are answered. -/
def State.answerForms (l : List (Pos × Byte × List Byte)) (s : State) : State :=
  l.foldl (fun s a =>
    match Request.parse a.2.1 a.2.2 with
    | .ok _ => s
    | .error c => s.owe a.1 (formResponse a.2.1 c)) s

/-- R165: the parcels that are requests. -/
def requestsOf (l : List (Pos × Byte × List Byte)) : List Arrived :=
  l.filterMap fun a =>
    match Request.parse a.2.1 a.2.2 with
    | .ok r => some (a.1, r)
    | .error _ => none

/-! ### The order of the requests of one frame -/

/-- The members that meet `f`, in the order `l`, put where members that meet `f` stand in the second list. -/
def reslot {α : Type} (f : α → Bool) : List α → List α → List α
  | _, [] => []
  | l, x :: xs =>
    if f x then
      match l with
      | y :: ys => y :: reslot f ys xs
      | [] => x :: reslot f [] xs
    else x :: reslot f l xs

/-- R117: a SET_POSITION by the named position itself. -/
def setsOwn (a : Arrived) : Bool :=
  match a.2 with
  | .setPosition q _ _ => q.toNat == a.1.val
  | _ => false

/-- R117: a SET_POSITION. -/
def setsPosition (a : Arrived) : Bool :=
  match a.2 with
  | .setPosition _ _ _ => true
  | _ => false

/-- The order in which the requests of one frame are taken: that of `first`, then ascending (log 6); of SET_POSITIONs the
named position's own first (R117). R36 orders the ANNOUNCEs that need allocation by position. DESIGN CHOICE (unsafe): every
ANNOUNCE of the frame, of a held key too, is taken in that order (log 50). -/
def requestOrder (first : List Pos) (l : List Arrived) : List Arrived :=
  let lanes := dedupBy (fun x y => decide (x = y)) (first ++ allPos)
  let l' := lanes.flatMap fun p => l.filter fun a => decide (a.1 = p)
  let l' := reslot (fun a => a.2.isAnnounce) (l.filter fun a => a.2.isAnnounce) l'
  let own := l'.filter setsOwn ++ l'.filter fun a => setsPosition a && !setsOwn a
  reslot setsPosition own l'

/-- R165: requests judged one after the other; that of a position that has gone EMPTY is lost with its lane (R162).
`leaving` holds the positions that depart in this frame (R45). -/
def State.takeRequests (leaving : List Pos) (l : List Arrived) (s : State) : State :=
  l.foldl (fun s a => if s.occupied a.1 then s.takeRequest (leaving.contains a.1) a.1 a.2 else s) s

/-! ### The Roster -/

/-- R101, R155: the record of position `p` at the end of a frame. The role of a line card is not read. -/
def frameOf (g8 : Byte) (p : Pos) (c : CardSegment) (x : Position) : Position × PosEvent :=
  let (y, e) := x.frame g8 c
  if p.val < 2 then (y, e) else ({ y with role := x.role, sRole := x.sRole }, e)

/-- What the frame does to position `p`. -/
def State.frameAt (segs : List (BitVec 48)) (s : State) (p : Pos) : Position × PosEvent :=
  frameOf s.g8 p (segmentOf segs p) (s.pos p)

/-- The positions at which the frame has the event `e`. -/
def State.withEvent (segs : List (BitVec 48)) (s : State) (e : PosEvent) : List Pos :=
  allPos.filter fun p => decide ((s.frameAt segs p).2 = e)

/-- R45: an ANNOUNCE that position `p` completed in the frame has been taken: its lane owes the ACCEPTED of it (R41); `before`
is the state the frame began with. -/
def State.hasAnnounced (segs : List (BitVec 48)) (s before : State) (p : Pos) : Bool :=
  (requestsOf (before.arrivals segs)).any (fun a => decide (a.1 = p) && a.2.isAnnounce) &&
    (s.lane p).owed.any fun r => decide (r.code = .accepted)

/-- R50: the departures of a frame change the state of an entry: one of theirs was in use as the frame began (R44), or an
ANNOUNCE of theirs taken in it, by an allocation, an eviction or the return of a STALE entry, has put one in use (R36, R37, R40,
R45). -/
def State.departuresPrompt (segs : List (BitVec 48)) (gone : List Pos) (s before : State) : Bool :=
  before.holdsSources gone || gone.any (s.hasAnnounced segs before)

/-- R104: what the departures do outside the Roster's records: boards, lanes, sources, load. Where they prompt the Change
Schedule, it tallies once, after all of them (R50; log 22), whichever the device has taken first of an ANNOUNCE and the
departure (R45). -/
def State.departures (prompted : Bool) (gone : List Pos) (s : State) : State :=
  let s' := gone.foldl (fun s p => ((s.clearLane p).departSources p).departLoader p) s
  if prompted then s'.tally else s'

/-- R101 to R109, R116: the Roster at the end of a frame; `before` is the state the frame began with. DESIGN CHOICE (unsafe): no
rule orders the notices of one frame end; the departures' SOURCE_STATEs come first, then their tally's, then the SLOT_STATEs, by
position (log 58). -/
def State.frameRoster (segs : List (BitVec 48)) (s before : State) : State :=
  let gone := s.withEvent segs .departed
  let told := allPos.filter fun p => decide ((s.frameAt segs p).2 ≠ .quiet)
  let s' := s.setRoster (.build 12 fun p => (s.frameAt segs p).1)
  told.foldl (fun s p => s.noteSlot p) (s'.departures (s.departuresPrompt segs gone before) gone)

/-! ### Marks and the lead -/

/-- R5: the tracker of controller `c` at the end of a frame; `before` is the state the frame began with. A mark in the
frame in which its position leaves EMPTY is ignored (R4; log 35). -/
def trackerFrame (segs : List (BitVec 48)) (before after : State) (c : Ctl) : Tracker :=
  let bit := (segmentOf segs (ctlPos c)).mark
  if before.occupied (ctlPos c) && !after.occupied (ctlPos c) then { Tracker.initial with lastBit := bit }
  else (before.time.tracker c).frame before.time.frame (before.occupied (ctlPos c)) bit

/-- R4 to R8: both trackers at the end of a frame. -/
def State.frameMarks (segs : List (BitVec 48)) (s before : State) : State :=
  s.setTime { s.time with trackerA := trackerFrame segs before s .a, trackerB := trackerFrame segs before s .b }

/-- R9, R10: the mark of controller `c` in this frame realigns the device. -/
def State.realigns (segs : List (BitVec 48)) (s : State) : Option Ctl → Bool
  | some c =>
    (s.time.tracker c).strikes s.time.frame (s.occupied (ctlPos c)) (segmentOf segs (ctlPos c)).mark &&
      decide (markPosition s.time.frame ≠ 0)
  | none => false

/-! ### The frame -/

/-- R139, R148: the Roster, the marks, the lead, the latency counts and the load's time-out at a frame end; `before`
is the state the frame began with. DESIGN CHOICE (unsafe): LEAD_CHANGED follows the Roster's notices, and RULESET_TIMEOUT
comes last (log 58). -/
def State.frameEvents (segs : List (BitVec 48)) (s before : State) : State :=
  (((s.frameRoster segs before).frameMarks segs before).arbitrate.frameRehearsal).expireLoader

/-- R1, R9: the frame after this one; a boundary is left due (log 3). -/
def TimeBase.advanceFrame (realign : Bool) (b : TimeBase) : TimeBase :=
  if realign then { b with due := .realign (markPosition b.frame), busClock := 0 }
  else if b.frame + 1 < Config.framesPerSecond then { b with frame := b.frame + 1, busClock := 0 }
  else { b with due := .second, busClock := 0 }

/-- R148: what the segments of the frame in progress change. MUTE_SOURCEs are judged after the other requests and the
departures (R48), and after the lead changes (log 36); QUERYs read the state as the frame leaves it (R170). An ANNOUNCE
taken before its position's departure counts in no tally (R45); the tally that it prompts comes with the departures (log 22).
DESIGN CHOICE (unsafe): the frame's latency count (R122) goes with the departures and the lead change, so a REHEARSAL_CANCEL of the frame comes after it, or before it, as
`requestsFirst` says (log 51). DESIGN CHOICE (unsafe): so does a position that leaves EMPTY (R103): its board takes the notices
that requests of the frame queue only where it joins before them (log 55). -/
def State.frameWork (segs : List (BitVec 48)) (order : FrameOrder) (s : State) : State :=
  let arrived := s.arrivals segs
  let requests := requestOrder order.lanes (requestsOf arrived)
  let early := requests.filter fun a => !(a.2.isMute || a.2.isQuery)
  let heard := ((s.hearLanes segs).answerForms arrived).tickLoader
  let worked :=
    if order.requestsFirst then (heard.takeRequests (s.withEvent segs .departed) early).frameEvents segs s
    else (heard.frameEvents segs s).takeRequests [] early
  let muted := worked.takeRequests [] (requests.filter fun a => a.2.isMute)
  let asked := (muted.takeRequests [] (requests.filter fun a => a.2.isQuery)).settleLoader
  let realign := s.realigns segs (if order.marksFirst then s.time.holder else worked.time.holder)
  asked.setTime (asked.time.advanceFrame realign)

/-- R173: the lane arbiter of every lane at the start of a frame. -/
def State.arbiters (s : State) : State := allPos.foldl (fun s p => s.arbiter p) s

/-- R148, R157, R173: the frame after the one that has ended begins, unless a boundary comes first (log 3): the boards hold
the offers that the ended frame leaves needed (R113, R172), and then frame 980 begins with the quiet frames' work, another
with the lane arbiter; what it shows stands from then on. -/
def State.openFrame (s : State) : State :=
  match s.time.due with
  | .nothing =>
    if s.time.frame = Config.quietFrame then s.finish.openQuiet else s.finish.arbiters.finish.latch
  | _ => s.finish

/-- R148: the frame in progress ends, with the card segments `segs`, and the next one begins. -/
def frameEnd (segs : List (BitVec 48)) (order : FrameOrder) (s : State) : State :=
  if s.running then (s.settle.nextMoment.frameWork segs order).openFrame else s

end Sys2Proof.Machine
end

