-- ==== Sys2Proof/Machine/Events.lean ====
section
/-! DEFINITION. The meanings of the commands that are events of power, reset, clock, frames, seconds, timers and
lanes. An event that cannot come in the state at hand leaves the device unchanged (log 20). -/

namespace Sys2Proof.Machine

/-- The outcome of a command. -/
abbrev Result := Host.Outcome State Fault Refusal

/-! ### Power, reset and clock -/

/-- START_UP (R159, R178 to R180): main power present, RSTN high and REFCLK running, the device starts up and works
the boundary of frame 0. -/
def execStartUp (s : State) : Result :=
  .next (s.setPins { s.pins with powered := true, rstn := true, refclk := true }).startUp

/-- R146, R159: the frame in progress is cut or held at bus clock `clk`, no earlier than it has reached. -/
def State.holdClock (clk : BitVec 12) (s : State) : State :=
  s.setTime { s.time with busClock := max s.time.busClock clk.toNat }

/-- RESET_ASSERT (R159): RSTN goes low and cuts the frame at bus clock `clk`; the device stands still and drives
nothing until START_UP. -/
def execResetAssert (clk : BitVec 12) (s : State) : Result :=
  if s.running then .next ((s.holdClock clk).setPins { s.pins with rstn := false })
  else .next (s.setPins { s.pins with rstn := false })

/-- MAIN_POWER_LOSS (R176): main power fails; the store keeps what the last completed event left. -/
def execMainPowerLoss (s : State) : Result := .next (s.setPins { s.pins with powered := false })

/-- VBAK_LOW (R177): VBAK falls below its threshold, whether main power is present or not: the indicator is cleared.
The coming `n` boundaries find VBAK low (log 7). -/
def execVbakLow (n : Nat) (s : State) : Result :=
  .next ((s.setStore { s.store with good := false }).setPins { s.pins with vbakLowFor := n })

/-- REFCLK_STOP (R1, R146): REFCLK stops at bus clock `clk` of the frame in progress. -/
def execRefclkStop (clk : BitVec 12) (s : State) : Result :=
  if s.running then .next ((s.holdClock clk).setPins { s.pins with refclk := false })
  else .next (s.setPins { s.pins with refclk := false })

/-- REFCLK_RESUME (R1): counting resumes at the bus clock where it stopped. -/
def execRefclkResume (s : State) : Result := .next (s.setPins { s.pins with refclk := true })

/-! ### Frames and seconds -/

/-- FRAME_END (R148): the frame in progress ends with the card segments `segs`. -/
def execFrameEnd (segs : List (BitVec 48)) (order : FrameOrder) (s : State) : Result :=
  .next (frameEnd segs order s)

/-- MARK_MISS (R7): the interval count of controller `c`'s ALIGNED tracker reaches 1001. -/
def execMarkMiss (c : Ctl) (s : State) : Result :=
  if s.running then .next (markMiss c s.nextMoment).finish else .next s

/-- SECOND_BOUNDARY (R84): the boundary that is due is worked; where none is due, the second in progress ends here,
its quiet frames' work done first (log 3). -/
def execSecondBoundary (s : State) : Result :=
  if s.running then
    match s.time.due with
    | .realign p => .next (s.realign p)
    | .second => .next s.boundary
    | .nothing => .next s.quietStart.boundary
  else .next s

/-- STALE (R42): the silence count of entry `i` reaches the staleness limit. -/
def execStale (i : Fin 16) (s : State) : Result :=
  if s.running then .next (staleEntry i s.nextMoment).finish else .next s

/-- TAKE_CHECK_DUE (R108): the take check of position `p` falls due. -/
def execTakeCheckDue (p : Pos) (s : State) : Result :=
  if s.running then .next (takeCheckDue p s.nextMoment).finish else .next s

/-- LAG_LIMIT_REACHED (R110): the lag timer of position `p` reaches the lag limit. -/
def execLagLimitReached (p : Pos) (s : State) : Result :=
  if s.running then .next (lagLimitReached p s.nextMoment).finish else .next s

/-- QUIET_FRAMES (R157): frame 980 begins. -/
def execQuietFrames (s : State) : Result :=
  if s.running && decide (s.time.due = .nothing) && decide (s.time.frame ≤ Config.quietFrame)
  then .next s.beginQuiet else .next s

/-- R10: the position at which the lead holder's ALIGNED tracker realigns the device by its next counted mark. -/
def State.nextRealign (s : State) : Option Nat :=
  match s.time.holder with
  | some c =>
    let k := s.time.tracker c
    match k.mode, k.candidate with
    | .aligned, some p => if p ≠ 0 && decide (s.time.frame < p) then some p else none
    | _, _ => none
  | none => none

/-- R10: the counted mark of the lead holder's tracker at position `p`. -/
def State.strike (s : State) : State :=
  match s.time.holder with
  | some c =>
    s.setTime (s.time.setTracker c { s.time.tracker c with misses := 0, interval := 0 })
  | none => s

/-- REALIGNMENT (R9, R10): the realignment that is due is made; where none is due, the lead holder's ALIGNED tracker
counts its mark at its position, not 0, and the device realigns there (log 3). -/
def execRealignment (s : State) : Result :=
  if s.running then
    match s.time.due with
    | .realign p => .next (s.realign p)
    | .second => .next s
    | .nothing =>
      match s.nextRealign with
      | some p => .next (s.strike.realign p)
      | none => .next s
  else .next s

/-- LOAD_TIMED_OUT (R139): the Loader's timer reaches 0. -/
def execLoadTimedOut (s : State) : Result :=
  if s.running then .next (loadTimedOut s.nextMoment).finish else .next s

/-! ### Lanes -/

/-- TRANSFER_BEGIN (R173, R174): the lane arbiter of position `p` in the frame in progress, which shows the first byte
of a parcel that begins (R161). -/
def execTransferBegin (p : Pos) (s : State) : Result :=
  if s.running && decide (s.time.due = .nothing) then
    let t := (s.nextMoment.arbiter p).finish
    .next (if (t.lane p).sending = (s.lane p).sending then t else t.latchOut p)
  else .next s

/-- TRANSFER_COMPLETE (R161, R166): the card in position `p` takes the parcel in transfer to its final byte. No byte is
taken in the quiet frames (R163). -/
def execTransferComplete (p : Pos) (s : State) : Result :=
  if s.running && decide (s.time.due = .nothing) && decide (s.time.frame < Config.quietFrame) then
    .next ((s.nextMoment.setLane p (s.lane p).takeAll)).finish
  else .next s

/-- R164: bytes taken one after the other, the last flag on the final one. -/
def feed : List Byte → Lane → Lane × Arrival
  | [], l => (l, none)
  | [b], l => l.takeByte b true
  | b :: bs, l => feed bs (l.takeByte b false).1

/-- R164, R165: the kind byte of a parcel whose form, or whose length for its kind, is refused BAD_FORM. -/
def malformed (bytes : List Byte) : Option Byte :=
  match bytes, feed bytes .initial with
  | kind :: _, (l, none) => if l.inbound = .held then some kind else none
  | kind :: _, (_, some a) =>
    match Request.parse a.1 a.2 with
    | .error .badForm => some kind
    | _ => none
  | [], _ => none

/-- BAD_FORM (R164, R165): the card in position `p` sends `bytes`, the last flag on the final one. Bytes that are not
malformed leave the device unchanged. -/
def execBadForm (p : Pos) (bytes : List Byte) (s : State) : Result :=
  match s.hears p, malformed bytes with
  | true, some kind => .next (((s.nextMoment.passBytes p bytes.length).owe p (badFormResponse kind))).finish
  | _, _ => .next s

/-- UNKNOWN_KIND (R165): the card in position `p` sends a well-formed parcel. One whose kind is a request kind leaves
the device unchanged. -/
def execUnknownKind (p : Pos) (kind : Byte) (payload : List Byte) (s : State) : Result :=
  if s.hears p && decide (payload.length ≤ 30) && decide (Request.parse kind payload = .error .unknownKind) then
    .next ((s.nextMoment.passBytes p (2 + payload.length)).owe p (formResponse kind .unknownKind)).finish
  else .next s

end Sys2Proof.Machine
end

