-- ==== Sys2Proof/Machine/Commands.lean ====
section
/-! DEFINITION. The meanings of the request commands: a parcel taken whole on the lane of position `p`, judged by its
owner, its response owed (R160, R165 to R167; log 5). Where the lane takes no parcel, the bytes stay on offer and the
device is unchanged. -/

namespace Sys2Proof.Machine

/-- R165, R166: the parcel of request `r` taken whole on the lane of position `p`. -/
def State.deliver (p : Pos) (r : Request) (s : State) : State :=
  if s.hears p && decide (r.payload.length ≤ 30) then
    ((s.nextMoment.passBytes p (2 + r.payload.length)).takeRequest false p r).finish
  else s

/-! ### Requests -/

/-- ANNOUNCE from position `p` (R35). -/
def execAnnounce (p : Pos) (origin ds kind : Byte) (instant : Option (BitVec 40)) (s : State) : Result :=
  .next (s.deliver p (.announce origin ds kind instant))

/-- SET_TIME from position `p` (R16). -/
def execSetTime (p : Pos) (x : BitVec 40) (s : State) : Result :=
  .next (s.deliver p (.setTime x))

/-- SET_OFFSET from position `p` (R75). -/
def execSetOffset (p : Pos) (value : BitVec 16) (s : State) : Result :=
  .next (s.deliver p (.setOffset value))

/-- CONFIRM from position `p` (R74). -/
def execConfirm (p : Pos) (id : Byte) (s : State) : Result :=
  .next (s.deliver p (.confirm id))

/-- WITHDRAW from position `p` (R72). -/
def execWithdraw (p : Pos) (id : Byte) (s : State) : Result :=
  .next (s.deliver p (.withdraw id))

/-- SHIFT_ZONE from position `p` (R131). -/
def execShiftZone (p : Pos) (zone : Byte) (offset : BitVec 16) (instant : BitVec 40) (s : State) : Result :=
  .next (s.deliver p (.shiftZone zone offset instant))

/-- CONFIGURE from position `p` (R169). -/
def execConfigure (p : Pos) (param : Byte) (value : BitVec 32) (s : State) : Result :=
  .next (s.deliver p (.configure param value))

/-- SET_POSITION from position `p` (R117). -/
def execSetPosition (p : Pos) (target mode zone : Byte) (s : State) : Result :=
  .next (s.deliver p (.setPosition target mode zone))

/-- MUTE_SOURCE_MUTE from position `p` (R48). -/
def execMuteSourceMute (p : Pos) (target origin : Byte) (s : State) : Result :=
  .next (s.deliver p (.muteSource target origin 0))

/-- MUTE_SOURCE_UNMUTE from position `p` (R49). -/
def execMuteSourceUnmute (p : Pos) (target origin : Byte) (s : State) : Result :=
  .next (s.deliver p (.muteSource target origin 1))

/-- CLEAR_SCALE from position `p` (R95). -/
def execClearScale (p : Pos) (s : State) : Result := .next (s.deliver p .clearScale)

/-- RULESET_START from position `p` (R138). -/
def execRulesetStart (p : Pos) (length : BitVec 16) (units : Byte) (serial : BitVec 32) (s : State) : Result :=
  .next (s.deliver p (.rulesetStart length units serial))

/-- RULESET_DATA from position `p` (R141). -/
def execRulesetData (p : Pos) (bytes : List Byte) (s : State) : Result :=
  .next (s.deliver p (.rulesetData bytes))

/-- RULESET_FINISH from position `p` (R142). -/
def execRulesetFinish (p : Pos) (s : State) : Result := .next (s.deliver p .rulesetFinish)

/-- RULESET_ABANDON from position `p` (R140). -/
def execRulesetAbandon (p : Pos) (s : State) : Result := .next (s.deliver p .rulesetAbandon)

/-- REHEARSE from position `p` (R119). -/
def execRehearse (p : Pos) (span : BitVec 16) (s : State) : Result :=
  .next (s.deliver p (.rehearse span))

/-- REHEARSAL_CANCEL from position `p` (R125). -/
def execRehearsalCancel (p : Pos) (s : State) : Result := .next (s.deliver p .rehearsalCancel)

/-! ### Queries -/

/-- QUERY of subject SCHEDULE from position `p` (R170). -/
def execQuerySchedule (p : Pos) (index : Byte) (s : State) : Result := .next (s.deliver p (.query 0 index))

/-- QUERY of subject SOURCE from position `p` (R51, R170). -/
def execQuerySource (p : Pos) (index : Byte) (s : State) : Result := .next (s.deliver p (.query 1 index))

/-- QUERY of subject POSITION from position `p` (R116, R170). -/
def execQueryPosition (p : Pos) (index : Byte) (s : State) : Result := .next (s.deliver p (.query 2 index))

/-- QUERY of subject HISTORY from position `p` (R83, R170). -/
def execQueryHistory (p : Pos) (index : Byte) (s : State) : Result := .next (s.deliver p (.query 3 index))

/-- QUERY of subject CONFIG from position `p` (R169, R170). -/
def execQueryConfig (p : Pos) (index : Byte) (s : State) : Result := .next (s.deliver p (.query 4 index))

/-- QUERY of subject ZONE from position `p` (R129, R170). -/
def execQueryZone (p : Pos) (index : Byte) (s : State) : Result := .next (s.deliver p (.query 5 index))

/-- QUERY of subject RULESET from position `p` (R133, R170). -/
def execQueryRuleset (p : Pos) (index : Byte) (s : State) : Result := .next (s.deliver p (.query 6 index))

/-- QUERY of subject REHEARSAL from position `p` (R128, R170). -/
def execQueryRehearsal (p : Pos) (index : Byte) (s : State) : Result := .next (s.deliver p (.query 7 index))

end Sys2Proof.Machine
end

