-- ==== Sys2Proof/Machine/Dispatch.lean ====
section
/-! DEFINITION. One arm for each command of the table. -/

namespace Sys2Proof.Machine

/-- The effect of a command on everything but the queue. -/
def exec (i : Instr) (s : State) : Host.Outcome State Fault Refusal :=
  match i with
  | .startUp => Sys2Proof.Machine.execStartUp s
  | .resetAssert clk => Sys2Proof.Machine.execResetAssert clk s
  | .mainPowerLoss => Sys2Proof.Machine.execMainPowerLoss s
  | .vbakLow n => Sys2Proof.Machine.execVbakLow n s
  | .refclkStop clk => Sys2Proof.Machine.execRefclkStop clk s
  | .refclkResume => Sys2Proof.Machine.execRefclkResume s
  | .frameEnd segs order => Sys2Proof.Machine.execFrameEnd segs order s
  | .markMiss c => Sys2Proof.Machine.execMarkMiss c s
  | .secondBoundary => Sys2Proof.Machine.execSecondBoundary s
  | .stale k => Sys2Proof.Machine.execStale k s
  | .takeCheckDue p => Sys2Proof.Machine.execTakeCheckDue p s
  | .lagLimitReached p => Sys2Proof.Machine.execLagLimitReached p s
  | .quietFrames => Sys2Proof.Machine.execQuietFrames s
  | .realignment => Sys2Proof.Machine.execRealignment s
  | .loadTimedOut => Sys2Proof.Machine.execLoadTimedOut s
  | .transferBegin p => Sys2Proof.Machine.execTransferBegin p s
  | .transferComplete p => Sys2Proof.Machine.execTransferComplete p s
  | .badForm p bytes => Sys2Proof.Machine.execBadForm p bytes s
  | .unknownKind p kind payload => Sys2Proof.Machine.execUnknownKind p kind payload s
  | .announce p origin ds kind instant => Sys2Proof.Machine.execAnnounce p origin ds kind instant s
  | .setTime p x => Sys2Proof.Machine.execSetTime p x s
  | .setOffset p value => Sys2Proof.Machine.execSetOffset p value s
  | .confirm p id => Sys2Proof.Machine.execConfirm p id s
  | .withdraw p id => Sys2Proof.Machine.execWithdraw p id s
  | .shiftZone p zone offset instant => Sys2Proof.Machine.execShiftZone p zone offset instant s
  | .configure p param value => Sys2Proof.Machine.execConfigure p param value s
  | .setPosition p target mode zone => Sys2Proof.Machine.execSetPosition p target mode zone s
  | .muteSourceMute p target origin => Sys2Proof.Machine.execMuteSourceMute p target origin s
  | .muteSourceUnmute p target origin => Sys2Proof.Machine.execMuteSourceUnmute p target origin s
  | .clearScale p => Sys2Proof.Machine.execClearScale p s
  | .rulesetStart p length units serial => Sys2Proof.Machine.execRulesetStart p length units serial s
  | .rulesetData p bytes => Sys2Proof.Machine.execRulesetData p bytes s
  | .rulesetFinish p => Sys2Proof.Machine.execRulesetFinish p s
  | .rulesetAbandon p => Sys2Proof.Machine.execRulesetAbandon p s
  | .rehearse p span => Sys2Proof.Machine.execRehearse p span s
  | .rehearsalCancel p => Sys2Proof.Machine.execRehearsalCancel p s
  | .querySchedule p index => Sys2Proof.Machine.execQuerySchedule p index s
  | .querySource p index => Sys2Proof.Machine.execQuerySource p index s
  | .queryPosition p index => Sys2Proof.Machine.execQueryPosition p index s
  | .queryHistory p index => Sys2Proof.Machine.execQueryHistory p index s
  | .queryConfig p index => Sys2Proof.Machine.execQueryConfig p index s
  | .queryZone p index => Sys2Proof.Machine.execQueryZone p index s
  | .queryRuleset p index => Sys2Proof.Machine.execQueryRuleset p index s
  | .queryRehearsal p index => Sys2Proof.Machine.execQueryRehearsal p index s

end Sys2Proof.Machine
end

