-- ==== Sys2Proof/Machine/Bus.lean ====
section
/-! DEFINITION. The lines of the Scale Bus: BCLK, BFRM and BDAT, bus clock by bus clock (R146, R147, R156, R159,
R183). -/

namespace Sys2Proof.Machine

/-- R148: what the frame in progress shows; a boundary that is due is worked before the first bit of frame 0. -/
def State.shown (s : State) : Shown := s.settle.bus

/-- Bit `k` of a segment, the first bit the most significant (R183). -/
def segmentBit {w : Nat} (v : BitVec w) (k : Nat) : Bool := v.getMsbD k

/-- R146, R159: the lines carry a frame: main power is present and RSTN high. A frame that REFCLK has stopped is held, in
the bus clock it has reached (log 43). -/
def State.drivesLines (s : State) : Bool := s.pins.powered && s.pins.rstn

/-- R147, R183: the bit the device drives on BDAT in bus clock `c` of the frame in progress; none where it drives
nothing. -/
def State.drives (s : State) (c : Nat) : Option Bool :=
  if !s.drivesLines then none
  else if c < 160 then some (segmentBit s.shown.word c)
  else if h : (c - 160) / 96 < 12 then
    some (segmentBit (s.shown.segments.get ⟨(c - 160) / 96, h⟩) ((c - 160) % 96))
  else none

/-- R183: the position in whose card segment bus clock `c` lies, and the bit of it. -/
def cardClock (c : Nat) : Option (Pos × Nat) :=
  if h : (c - 1376) / 64 < 12 then
    if 1376 ≤ c && decide ((c - 1376) % 64 < 48) then some (⟨(c - 1376) / 64, h⟩, (c - 1376) % 64) else none
  else none

/-- R146, R147: the level of BDAT in bus clock `c`, the cards driving `segs`; 1 where no party drives. Without main power
and while RSTN is low no card drives either: the frame is cut (R159; log 48). -/
def State.bdat (segs : List (BitVec 48)) (c : Nat) (s : State) : Bool :=
  match s.drives c, s.drivesLines, cardClock c with
  | some b, _, _ => b
  | none, true, some (p, k) => segmentBit (segs.getD p.val undriven) k
  | none, _, _ => true

/-- R146: BFRM in bus clock `c`: high in the first clock of a frame, and held there where REFCLK stops in it
(log 43). -/
def State.bfrm (s : State) (c : Nat) : Bool := s.drivesLines && c == 0

/-- R146, R159: BCLK runs. -/
def State.bclk (s : State) : Bool := s.running

end Sys2Proof.Machine
end

