-- ==== Sys2Proof/WellFormed.lean ====
section
/-! DEFINITION. The commands that a sender can send. -/

namespace Sys2Proof

/-- R147: a frame carries at most twelve card segments. -/
def segmentsOk (segs : List (BitVec 48)) : Bool := decide (segs.length ≤ 12)

/-- A lane stands once in an order. -/
def FrameOrder.ok (o : FrameOrder) : Bool := decide o.lanes.Nodup

/-- R164: a parcel's length byte gives at most 30 payload bytes. -/
def payloadOk (b : List Byte) : Bool := decide (b.length ≤ 30)

/-- R164: a malformed parcel has a first byte. -/
def bytesOk (b : List Byte) : Bool := !b.isEmpty

/-- A command that a sender can send. -/
def Instr.wellFormed : Instr → Bool
  | .frameEnd segs order => segmentsOk segs && order.ok
  | .badForm _ bytes => bytesOk bytes
  | .unknownKind _ _ payload => payloadOk payload
  | .rulesetData _ bytes => payloadOk bytes
  | .startUp => true
  | .resetAssert _ => true
  | .mainPowerLoss => true
  | .vbakLow _ => true
  | .refclkStop _ => true
  | .refclkResume => true
  | .markMiss _ => true
  | .secondBoundary => true
  | .stale _ => true
  | .takeCheckDue _ => true
  | .lagLimitReached _ => true
  | .quietFrames => true
  | .realignment => true
  | .loadTimedOut => true
  | .transferBegin _ => true
  | .transferComplete _ => true
  | .announce _ _ _ _ _ => true
  | .setTime _ _ => true
  | .setOffset _ _ => true
  | .confirm _ _ => true
  | .withdraw _ _ => true
  | .shiftZone _ _ _ _ => true
  | .configure _ _ _ => true
  | .setPosition _ _ _ _ => true
  | .muteSourceMute _ _ _ => true
  | .muteSourceUnmute _ _ _ => true
  | .clearScale _ => true
  | .rulesetStart _ _ _ _ => true
  | .rulesetFinish _ => true
  | .rulesetAbandon _ => true
  | .rehearse _ _ => true
  | .rehearsalCancel _ => true
  | .querySchedule _ _ => true
  | .querySource _ _ => true
  | .queryPosition _ _ => true
  | .queryHistory _ _ => true
  | .queryConfig _ _ => true
  | .queryZone _ _ => true
  | .queryRuleset _ _ => true
  | .queryRehearsal _ _ => true

end Sys2Proof
end

