-- ==== Sys2Proof/Safety.lean ====
section
/-! DEFINITION. What a safe run is: what holds of the device whatever commands it takes. -/

namespace Sys2Proof.Machine

/-- The parts of the state. -/
inductive Block where
  | pins
  | time
  | labels
  | sources
  | sched
  | scale
  | rehearsal
  | roster
  | zones
  | rules
  | loader
  | lanes
  | settings
  | store
  | bus
  | moment
  | pending
deriving DecidableEq, Repr

/-- Two states agree on a part. -/
def Block.agree : Block → State → State → Prop
  | .pins, s, t => t.pins = s.pins
  | .time, s, t => t.time = s.time
  | .labels, s, t => t.labels = s.labels
  | .sources, s, t => t.sources = s.sources
  | .sched, s, t => t.sched = s.sched
  | .scale, s, t => t.scale = s.scale
  | .rehearsal, s, t => t.rehearsal = s.rehearsal
  | .roster, s, t => t.roster = s.roster
  | .zones, s, t => t.zones = s.zones
  | .rules, s, t => t.rules = s.rules
  | .loader, s, t => t.loader = s.loader
  | .lanes, s, t => t.lanes = s.lanes
  | .settings, s, t => t.settings = s.settings
  | .store, s, t => t.store = s.store
  | .bus, s, t => t.bus = s.bus
  | .moment, s, t => t.moment = s.moment
  | .pending, s, t => t.pending = s.pending

/-- Every part but those listed is as it was. -/
def Unchanged (but : List Block) (s t : State) : Prop := ∀ b : Block, b ∉ but → b.agree s t

/-- The completed events have left the device in order: the boards hold the offers that R113 wants, and the store
holds every item as its owner holds it (R175, R176). -/
def State.settled (s : State) : Prop := s.refreshOffers = s ∧ s.store.copy = s.image

/-- R165, R166: the lane of position `p` after the parcel of request `r` was taken whole and answered. -/
def State.answered (s : State) (p : Pos) (r : Request) (code : Code) (content : List Byte) : Lane :=
  { s.lane p with
    inbound := .held
    buffer := []
    take := if r.payload.length % 2 = 1 then !(s.lane p).take else (s.lane p).take
    owed := some { code := code, kind := r.kind, subject := r.subject, content := content, withheld := false } }

/-- R165 to R167: in `t` the sender's lane owes the answer, and every other lane is as it was. -/
def Answers (p : Pos) (r : Request) (code : Code) (content : List Byte) (s t : State) : Prop :=
  t.lane p = s.answered p r code content ∧ ∀ q : Pos, q ≠ p → t.lane q = s.lane q

/-- R165, R167: in `t` the sender's lane is HELD and owes the answer. -/
def Owes (p : Pos) (r : Request) (code : Code) (content : List Byte) (t : State) : Prop :=
  (t.lane p).inbound = .held ∧
  (t.lane p).owed =
    some { code := code, kind := r.kind, subject := r.subject, content := content, withheld := false }

/-- The sender and the request of a request command. -/
def requestOf : Instr → Option (Pos × Request)
  | .announce p o d k i => some (p, .announce o d k i)
  | .setTime p x => some (p, .setTime x)
  | .setOffset p v => some (p, .setOffset v)
  | .confirm p id => some (p, .confirm id)
  | .withdraw p id => some (p, .withdraw id)
  | .shiftZone p z o i => some (p, .shiftZone z o i)
  | .configure p k v => some (p, .configure k v)
  | .setPosition p q m z => some (p, .setPosition q m z)
  | .muteSourceMute p q o => some (p, .muteSource q o 0)
  | .muteSourceUnmute p q o => some (p, .muteSource q o 1)
  | .clearScale p => some (p, .clearScale)
  | .rulesetStart p l u n => some (p, .rulesetStart l u n)
  | .rulesetData p b => some (p, .rulesetData b)
  | .rulesetFinish p => some (p, .rulesetFinish)
  | .rulesetAbandon p => some (p, .rulesetAbandon)
  | .rehearse p n => some (p, .rehearse n)
  | .rehearsalCancel p => some (p, .rehearsalCancel)
  | .querySchedule p i => some (p, .query 0 i)
  | .querySource p i => some (p, .query 1 i)
  | .queryPosition p i => some (p, .query 2 i)
  | .queryHistory p i => some (p, .query 3 i)
  | .queryConfig p i => some (p, .query 4 i)
  | .queryZone p i => some (p, .query 5 i)
  | .queryRuleset p i => some (p, .query 6 i)
  | .queryRehearsal p i => some (p, .query 7 i)
  | .startUp | .resetAssert _ | .mainPowerLoss | .vbakLow _ | .refclkStop _ | .refclkResume | .frameEnd _ _
  | .markMiss _ | .secondBoundary | .stale _ | .takeCheckDue _ | .lagLimitReached _ | .quietFrames | .realignment
  | .loadTimedOut | .transferBegin _ | .transferComplete _ | .badForm _ _ | .unknownKind _ _ _ => none

/-- R167: in `t` the sender's lane owes the refusal `code`, and nothing else has changed (but the model's count of
moments, log 21). -/
def TurnedDown (p : Pos) (r : Request) (code : Code) (content : List Byte) (s t : State) : Prop :=
  Answers p r code content s t ∧ Unchanged [.lanes, .moment] s t

/-- R160, R165: the state in which request `r` of position `p` is judged: its bytes are taken. -/
def State.judged (p : Pos) (r : Request) (s : State) : State := s.nextMoment.passBytes p (2 + r.payload.length)

/-- R168: the requests that the lead holder alone may make. -/
def leadOnly : Request → Bool
  | .setTime _ | .setOffset _ | .confirm _ | .withdraw _ | .shiftZone _ _ _ | .configure _ _ | .muteSource _ _ _
  | .clearScale | .rehearse _ | .rehearsalCancel => true
  | .announce _ _ _ _ | .setPosition _ _ _ | .rulesetStart _ _ _ | .rulesetData _ | .rulesetFinish
  | .rulesetAbandon | .query _ _ => false

/-- R168: the kinds of the requests. -/
def requestKinds : List Byte :=
  [0x10, 0x11, 0x12, 0x13, 0x14, 0x15, 0x16, 0x17, 0x18, 0x19, 0x20, 0x21, 0x22, 0x23, 0x28, 0x29, 0x30]

/-- The commands of power, reset and clock, which act on a device that stands still. -/
def isPowerCommand : Instr → Bool
  | .startUp | .resetAssert _ | .mainPowerLoss | .vbakLow _ | .refclkStop _ | .refclkResume => true
  | _ => false

/-- R4: in this frame the mark bit of controller `c` rises at a position that is not EMPTY. -/
def State.marked (segs : List (BitVec 48)) (c : Ctl) (s : State) : Bool :=
  (segmentOf segs (ctlPos c)).mark && !(s.time.tracker c).lastBit && s.occupied (ctlPos c)

/-- R6, R7: the mark of controller `c` in this frame is counted: it stands at the tracker's candidate position, and
the interval count is 1000 at the end of the frame. -/
def State.counted (segs : List (BitVec 48)) (c : Ctl) (s : State) : Bool :=
  s.marked segs c && (s.time.tracker c).candidate == some ((s.time.frame + 1) % 1000) &&
    (s.time.tracker c).interval + 1 == 1000

/-- R1, R9, R84: the command works a second boundary, or starts the device up. -/
def worksBoundary (s : State) : Instr → Bool
  | .startUp | .secondBoundary | .realignment => true
  | .frameEnd _ _ => decide (s.time.due ≠ .nothing)
  | _ => false

/-- R148, R157, R161, R173: the commands by which a frame begins, or a parcel in the frame in progress. -/
def showsAnew : Instr → Bool
  | .frameEnd _ _ | .quietFrames | .transferBegin _ => true
  | _ => false

/-- R57: no source counts in a tally, and no boundary has a schedule, a load or a rule set to work on. -/
def State.still (s : State) : Prop :=
  (∀ i, (s.source i).state ≠ .listening ∧ (s.source i).state ≠ .vouching) ∧ s.rules.transitions = [] ∧
  s.loader.state ≠ .verifying ∧ s.scale.clearPending = false

/-- R83, R91: the history entries of records applied in this order at the boundary of T = `t`, from generation `g` and
D `d`. -/
def historyOf (t : Nat) : BitVec 16 → Option Nat → List Record → List HistoryEntry
  | _, _, [] => []
  | g, d, r :: rs =>
    let e : HistoryEntry :=
      { gen := g + 1, kind := .shift, id := some r.id, instant := r.affected.map (instantOf r.change),
        affected := r.affected, dAfter := d, shift := none, applied := some t }
    match r.change with
    | .leap .insert _ => { e with kind := .insert, dAfter := d.map (· + 1) } :: historyOf t (g + 1) d rs
    | .leap .delete _ =>
      { e with kind := .delete, dAfter := d.map (· - 1) } :: historyOf t (g + 1) (d.map (· - 1)) rs
    | .baseline x => { e with kind := .baseline, dAfter := some x } :: historyOf t (g + 1) (some x) rs
    | .shift z o _ => { e with shift := some (z, o) } :: historyOf t (g + 1) d rs

/-- R90, R93: how many positions a roll call for `tag` finds as `m`, taken now. -/
def State.found (s : State) (tag : Nat) (m : RollMark) : Nat :=
  (allPos.filter fun p => decide ((s.pos p).rollMark tag = m)).length

/-- R171, R174: notice `n` waits on the board of position `p`, or its transfer has begun. -/
def State.told (s : State) (p : Pos) (n : Notice) : Prop :=
  (∃ e ∈ (s.lane p).board, e.notice = n) ∨ ∃ x, (s.lane p).sending = some x ∧ x.bytes = parcel n.code n.bytes

/-- R101, R102: a frame with the card segments `segs` qualifies no new value at position `p`: an EMPTY position stays EMPTY, the
card of another one keeps its intent, held generation and ready tag, and a controller its role. -/
def State.unmoved (segs : List (BitVec 48)) (s : State) (p : Pos) : Prop :=
  let x := s.pos p
  let c := segmentOf segs p
  let i := (x.sIntent.feed (readIntent c.intent)).steady.getD x.intent
  if x.state = .empty then i = .idle
  else i ≠ .idle ∧ i = x.intent ∧ (x.sHeld.feed c.held).steady.or x.held = x.held ∧
    (x.sReady.feed c.ready.toNat).steady.getD x.ready = x.ready ∧
    (p.val < 2 → (x.sRole.feed (readRole c.role)).steady.getD x.role = x.role)

/-! ### Boards -/

/-- R171: the class of a notice: 2 change, 1 roster and source, 0 service. -/
def Notice.classNumber (n : Notice) : Nat := if n.code < 0x58 then 2 else if n.code < 0x5C then 1 else 0

/-- R173: entry `x` is at least as old as `y`; of one moment, the lower kind code and then the lower subject goes first. -/
def BoardEntry.goesFirst (x y : BoardEntry) : Prop :=
  x.joined < y.joined ∨ x.joined = y.joined ∧
    (x.notice.code < y.notice.code ∨ x.notice.code = y.notice.code ∧ x.notice.subject ≤ y.notice.subject)

/-! ### What a tally counts, and what it makes of a record -/

/-- R61: the weight of an origin. -/
def State.originWeight (s : State) : SourceOrigin → Nat
  | .network => s.value Config.weightNetwork
  | .satellite => s.value Config.weightSatellite
  | .operator => s.value Config.weightOperator

/-- R58, R61: what entry `i` adds to the count of the effective views that meet `f`: its origin's weight, where it is
VOUCHING. -/
def State.addsTo (s : State) (f : Fin 16 → EffView → Bool) (i : Fin 16) : Nat :=
  match (s.source i).state, (s.source i).key, (s.source i).vouched with
  | .vouching, some k, some v =>
    if f i (v.effective s.time.t) then s.originWeight k.origin else 0
  | _, _, _ => 0

/-- R58: the count of the effective views that meet `f`. -/
def State.sumOf (s : State) (f : Fin 16 → EffView → Bool) : Nat := (allEntries.map (s.addsTo f)).sum

/-- R58, R60: the effective view `v` of entry `i` is a vouch for change `c`. -/
def State.countsFor (s : State) (c : Change) (i : Fin 16) (v : EffView) : Bool :=
  match c, s.scale.d with
  | .leap k e, some _ => decide (v.leap = some (k, e))
  | .baseline x, d => decide (v.ds = x) && decide (d ≠ some x) && !s.sched.marks.get i
  | _, _ => false

/-- R58: the vouch tally of a change. -/
def State.vouches (s : State) (c : Change) : Nat := s.sumOf (s.countsFor c)

/-- R58, R66: an entry of OPERATOR origin is among the vouchers of a change. -/
def State.operatorVouches (s : State) (c : Change) : Bool :=
  decide (0 < s.sumOf fun i v => s.countsFor c i v && decide ((s.source i).key.map SourceKey.origin = some .operator))

/-- R58: the agreement tally. -/
def State.agrees (s : State) : Nat := s.sumOf fun _ v => decide (s.scale.d = some v.ds) && v.leap.isNone

/-- R59: the opposition tally of a record. -/
def State.opposes (s : State) (r : Record) : Nat :=
  match r.change, r.affected, s.time.t with
  | .leap _ _, some a, some n => if r.state ≠ .settling ∧ a - s.value Config.horizon ≤ n then s.agrees else 0
  | _, _, _ => 0

/-- R64: the reason for which a tally withdraws a record before it places newcomers (both hold: MET, log 8). -/
def State.fallsAway (s : State) (r : Record) : Option Reason :=
  let meets := match r.change with
    | .baseline x => decide (s.scale.d = some x)
    | _ => false
  match r.state with
  | .heard | .contested =>
    if meets then some .met
    else if r.origin = .sources ∧ s.vouches r.change = 0 then some .lapsed else none
  | .qualified | .held => if meets then some .met else none
  | _ => none

/-- R58: the changes that the effective views of the entries name. -/
def State.named (s : State) : List Change :=
  allEntries.flatMap fun i =>
    match (s.source i).effective s.time.t with
    | some v => .baseline v.ds :: (v.leap.toList.map fun l => .leap l.1 l.2)
    | none => []

/-- R62, R65: a change that a tally has to place. -/
def State.isNewcomer (s : State) (c : Change) : Bool :=
  decide (0 < s.vouches c) && s.records.all (fun r => !r.change.sameKey c) &&
    s.sched.listed.all fun x => !x.change.sameKey c

/-- R62: newcomer `a` is placed before newcomer `b`. -/
def State.placedFirst (s : State) (a b : Change) : Bool :=
  decide (s.vouches b < s.vouches a) || decide (s.vouches a = s.vouches b) &&
    match a, b with
    | .leap k e, .leap _ e' => decide (e < e') || decide (e = e') && decide (k = .insert)
    | .leap _ _, .baseline _ => true
    | .baseline x, .baseline y => decide (x < y)
    | _, _ => false

/-- R62: the HEARD record `a` is displaced before `b`. -/
def State.yieldsFirst (s : State) (a b : Record) : Bool :=
  let age (r : Record) : Nat := match r.created with
    | none => 0
    | some x => x + 1
  decide (s.vouches a.change < s.vouches b.change) || decide (s.vouches a.change = s.vouches b.change) &&
    (decide (age a < age b) || decide (age a = age b) && decide (a.id < b.id))

/-- R66: two changes that cannot both be true. -/
def Change.excludes : Change → Change → Bool
  | .leap .insert e, .leap .delete e' => decide (e = e')
  | .leap .delete e, .leap .insert e' => decide (e = e')
  | .baseline x, .baseline y => decide (x ≠ y)
  | _, _ => false

/-- R66: the rivals of a change among `rs` that stand, at quorum `q`. -/
def standingAmong (q : Nat) (rs : List Record) (c : Change) : List Record :=
  rs.filter fun x => c.excludes x.change && (decide (x.state ≠ .heard) || decide (q ≤ x.vouch))

/-- R66, R73: the state in which a record of this change qualifies. -/
def State.qualifiesAs (s : State) : Change → RecordState
  | .baseline x => if s.scale.d = none ∨ s.operatorVouches (.baseline x) = true then .qualified else .held
  | _ => .qualified

/-- R66: what the judgement of a tally makes of record `r`, one of the records `rs`. -/
def State.asJudged (s : State) (rs : List Record) (r : Record) : Record :=
  let q := s.value Config.quorum
  if r.state = .heard ∧ q ≤ r.vouch then
    if standingAmong q rs r.change = [] then { r with state := s.qualifiesAs r.change }
    else { r with state := .contested, preContest := some .heard }
  else if (r.state = .qualified ∨ r.state = .held) ∧ r.origin = .sources ∧
      (rs.any fun x => r.change.excludes x.change && decide (x.state = .heard) && decide (q ≤ x.vouch)) = true then
    { r with state := .contested, preContest := some r.state }
  else r

/-- R70: a record that opposition withdraws. -/
def Record.isOpposed (q : Nat) (r : Record) : Bool :=
  r.change.isLeap && (decide (r.state = .qualified) || decide (r.state = .contested)) && decide (q ≤ r.oppose)

/-- R68: what the release of a tally makes of record `r`, one of the records `rs` that are left. -/
def State.asReleased (s : State) (rs : List Record) (r : Record) : Record :=
  let q := s.value Config.quorum
  if r.state = .contested ∧ standingAmong q rs r.change = [] then
    match r.preContest.getD .heard with
    | .heard => { r with preContest := none, state := if q ≤ r.vouch then s.qualifiesAs r.change else .heard }
    | st => { r with preContest := none, state := st }
  else r

/-- R57: the state in which a tally judges the records (R66): counts, lapse and MET, the purge of the withdrawn list and the
newcomers are done. -/
def State.weighed (s : State) : State :=
  ((((s.tallyCounts s.voters).tallyAgreement.tallyLapse).tallyPurge s.voters).tallyNewcomers s.voters)

/-! ### The check of an image -/

/-- R143: the check value of bytes: from a register of ones, each bit of each byte (the least significant first) shifts it
toward its least significant end, the polynomial's lower terms, reflected, entering where the bit and the one shifted out
differ; then every bit is inverted. -/
def checkValue (bytes : List Byte) : BitVec 32 :=
  let terms : List Nat := [26, 23, 22, 16, 12, 11, 10, 8, 7, 5, 4, 2, 1, 0]
  let polynomial : BitVec 32 := terms.foldl (fun a e => a ||| (1#32 <<< (31 - e))) 0
  let bits := bytes.flatMap fun b => (List.range 8).map fun i => b.getLsbD i
  ~~~ (bits.foldl (fun r bit => if r.getLsbD 0 != bit then (r >>> 1) ^^^ polynomial else r >>> 1) (BitVec.allOnes 32))

/-- R189: the number in `n` bytes of an image from byte `i` on, the most significant first. -/
def imageNumber (image : List Byte) (i n : Nat) : Nat :=
  ((image.drop i).take n).foldl (fun a b => 256 * a + b.toNat) 0

/-- R189: transition `i` as the bytes of an image give it. -/
def imageEntry (image : List Byte) (i : Nat) : Transition :=
  { zone := imageNumber image (8 + 8 * i) 1
    offset := (BitVec.ofNat 16 (imageNumber image (9 + 8 * i) 2)).toInt
    instant := imageNumber image (11 + 8 * i) 5
    skipped := false }

/-- R144, items 5 to 7: transition `i` of an image fails one of them. -/
def entryFails (image : List Byte) (i : Nat) : Prop :=
  let x := imageEntry image i
  let y := imageEntry image (i - 1)
  x.zone < 1 ∨ 15 < x.zone ∨ x.offset < -720 ∨ 840 < x.offset ∨
    1 ≤ i ∧ ¬ (y.zone < x.zone ∨ y.zone = x.zone ∧ y.instant < x.instant)

/-- R143, R144: what the verification of a staged image gives, in the order of its checks. -/
def Judges (l : Loader) (result : Except (Code × Nat) RuleStore) : Prop :=
  let b := l.buffer
  let n := (l.length - 12) / 8
  if imageNumber b (l.length - 4) 4 ≠ (checkValue (b.take (l.length - 4))).toNat then
    result = .error (.checkFailed, 255)
  else if imageNumber b 0 1 ≠ 1 ∨ imageNumber b 1 1 ≠ n ∨ imageNumber b 2 4 ≠ l.serial.toNat ∨ imageNumber b 6 2 ≠ 0 then
    result = .error (.badContent, 255)
  else
    (∀ i, i < n → entryFails b i → (∀ j, j < i → ¬ entryFails b j) → result = .error (.badContent, i)) ∧
    ((∀ i, i < n → ¬ entryFails b i) →
      result = .ok { serial := l.serial, transitions := (List.range n).map (imageEntry b) })

/-! ### Layouts of payloads, field by field, the first bit of a byte the most significant -/

/-- R188: the key of a change in three bytes (log 17). -/
def layoutKey : Change → List Byte
  | .leap _ e => beBytes 3 e
  | .baseline x => beBytes 3 x
  | .shift z _ _ => beBytes 3 z

/-- R187: the three bytes of key and value in a record. -/
def layoutValue : Change → List Byte
  | .leap _ e => beBytes 3 e
  | .baseline x => beBytes 3 x
  | .shift z o _ => [BitVec.ofNat 8 z] ++ signed16 o

/-- R187: two bits of a roll-call result. -/
def layoutRoll (roll : Option Roll) (p : Pos) : BitVec 2 :=
  match roll.map fun (r : Roll) => r.get p with
  | some .ready => 0
  | some .notReady => 1
  | some .notCounted => 2
  | none => 3

/-- R187: a SCHEDULE record. -/
def layoutRecord (agreement : Nat) (roll : Option Roll) (r : Record) : List Byte :=
  [BitVec.ofNat 8 r.id,
    BitVec.ofNat 2 r.change.kindNumber ++ BitVec.ofNat 3 r.state.number ++ BitVec.ofNat 2 r.origin.number ++
      BitVec.ofBool r.restored,
    BitVec.ofBool r.late ++ BitVec.ofNat 2 ((r.preContest.map RecordState.number).getD 0) ++
      BitVec.ofNat 4 (r.tag.getD 0) ++ 0#1] ++
  layoutValue r.change ++ beBytes 5 (r.affected.getD 0) ++
  [BitVec.ofNat 8 r.vouch, BitVec.ofNat 8 r.oppose, BitVec.ofNat 8 agreement] ++ beBytes 5 (r.created.getD 0) ++
  (match r.window, r.affected with
    | some w, some a =>
      let i := match r.change with
        | .leap .insert _ => a + 1
        | _ => a
      beBytes 4 (BitVec.ofNat 13 (i - w.start) ++ 0#3 ++ BitVec.ofNat 16 w.length).toNat
    | _, _ => [0, 0, 0, 0]) ++
  [BitVec.ofNat 8 ((r.window.map Window.dOld).getD 0),
    layoutRoll roll 0 ++ layoutRoll roll 1 ++ layoutRoll roll 2 ++ layoutRoll roll 3,
    layoutRoll roll 4 ++ layoutRoll roll 5 ++ layoutRoll roll 6 ++ layoutRoll roll 7,
    layoutRoll roll 8 ++ layoutRoll roll 9 ++ layoutRoll roll 10 ++ layoutRoll roll 11]

/-- R187: the fields of a record fit their bits. -/
def Record.fitsLayout (r : Record) : Prop :=
  (∀ st ∈ r.preContest, st.number < 4) ∧ (∀ k ∈ r.tag, k < 16) ∧
  ∀ w ∈ r.window, ∀ a ∈ r.affected, a + 1 - w.start < 8192 ∧ w.length < 65536

/-- R187: an item of the withdrawn list. -/
def layoutListed (x : Listed) : List Byte :=
  [BitVec.ofNat 8 x.change.kindNumber] ++ layoutKey x.change ++ [BitVec.ofNat 8 x.reason.number] ++
  beBytes 5 (x.since.getD 0)

/-- R187: a history entry. -/
def layoutHistory (e : HistoryEntry) : List Byte :=
  beBytes 2 e.gen.toNat ++
  [0#4 ++ BitVec.ofBool e.dAfter.isSome ++ BitVec.ofNat 3 e.kind.number, BitVec.ofNat 8 (e.id.getD 0)] ++
  beBytes 5 (e.instant.getD 0) ++ beBytes 5 (e.affected.getD 0) ++
  [BitVec.ofNat 8 (e.dAfter.getD 0), BitVec.ofNat 8 ((e.shift.map Prod.fst).getD 0)] ++
  signed16 ((e.shift.map Prod.snd).getD 0) ++ beBytes 5 (e.applied.getD 0)

/-- R188: SOURCE_STATE of an entry that is not FREE. -/
def layoutSource (i : Fin 16) (e : Source) (spent : Bool) : List Byte :=
  let leap := e.vouched.bind View.leap
  [BitVec.ofNat 8 i.val,
    (match e.key with
      | some k => BitVec.ofNat 4 k.pos.val ++ 0#2 ++ BitVec.ofNat 2 k.origin.number
      | none => 0),
    0#1 ++ BitVec.ofNat 3 e.state.number ++ BitVec.ofNat 4 e.run,
    BitVec.ofBool e.vouched.isSome ++
      (match leap.map LeapView.kind with
        | none => 0#2
        | some .insert => 1#2
        | some .delete => 2#2) ++
      BitVec.ofBool ((leap.map LeapView.inferred).getD false) ++ BitVec.ofBool spent ++ 0#3,
    BitVec.ofNat 8 ((e.vouched.map View.ds).getD 0)] ++
  beBytes 3 ((leap.map LeapView.day).getD 0) ++ beBytes 5 (e.lastHeard.getD 0) ++ beBytes 5 (e.allocated.getD 0)

/-- R188: the parcels of the notices: kind, length and payload; none for an offer, which is settled when it is sent. -/
def layoutNotice : Notice → Option (List Byte)
  | .armed r => some ([0x50, 28, BitVec.ofNat 8 r.id,
      0#1 ++ BitVec.ofBool r.change.isNone ++ BitVec.ofBool r.late ++ 0#2 ++
        BitVec.ofNat 3 ((r.change.map Change.kindNumber).getD 7)] ++
      ((r.change.map layoutKey).getD [0, 0, 0]) ++ signed16 r.newValue ++ beBytes 5 r.instant ++
      beBytes 5 r.affected ++ [BitVec.ofNat 8 r.tag] ++ beBytes 5 r.start ++ beBytes 5 r.stop)
  | .withdrawn id c why => some ([0x51, 6, BitVec.ofNat 8 id, BitVec.ofNat 8 c.kindNumber] ++ layoutKey c ++
      [BitVec.ofNat 8 why.number])
  | .applied f l tag a b _ => some ([0x52, 7] ++ beBytes 2 f.toNat ++ beBytes 2 l.toNat ++
      [BitVec.ofNat 8 tag, BitVec.ofNat 8 a, BitVec.ofNat 8 b])
  | .missed id c was a => some ([0x53, 10, BitVec.ofNat 8 id,
      BitVec.ofBool was ++ 0#5 ++ BitVec.ofNat 2 c.kindNumber] ++ layoutKey c ++ beBytes 5 a)
  | .offer => none
  | .slotState p r => some [0x58, 8, BitVec.ofNat 8 p.val, BitVec.ofNat 8 r.state.number,
      BitVec.ofNat 8 r.intent.number, r.held.getD 0, if r.held.isSome then 1 else 0, BitVec.ofNat 8 r.ready,
      BitVec.ofNat 8 r.lag, 0#3 ++ BitVec.ofNat 1 r.mode.number ++ BitVec.ofNat 4 r.zone.val]
  | .sourceState i e spent => some ([0x59, 18] ++
      if e.state = .free then BitVec.ofNat 8 i.val :: List.replicate 17 0 else layoutSource i e spent)
  | .contest id c v rival => some ([0x5A, 7, BitVec.ofNat 8 id, BitVec.ofNat 8 c.kindNumber] ++ layoutKey c ++
      [BitVec.ofNat 8 v, BitVec.ofNat 8 rival])
  | .scheduleFull c v => some ([0x5B, 5, BitVec.ofNat 8 c.kindNumber] ++ layoutKey c ++ [BitVec.ofNat 8 v])
  | .timeSlip p => some ([0x5C, 2] ++ beBytes 2 p)
  | .leadChanged h => some [0x5D, 1, match h with
      | none => 0
      | some .a => 1
      | some .b => 2]
  | .rulesetTimeout serial pointer => some ([0x60, 6] ++ beBytes 4 serial.toNat ++ beBytes 2 pointer)
  | .rehearsalResult a b c => some [0x61, 3, BitVec.ofNat 8 a, BitVec.ofNat 8 b, if c then 1 else 0]

/-! ### Invariants -/

/-- R1, R2, R16: the frame index lies in 0 to 999, the bus clock in 0 to 4095, and T, pending or known, in
0 to 2^40 − 1. -/
def State.timeInRange (s : State) : Prop :=
  s.time.frame < Config.framesPerSecond ∧ s.time.busClock < 4096 ∧
  (∀ t ∈ s.time.t, t ≤ Config.maxT) ∧ ∀ x ∈ s.time.pendingTime, x ≤ Config.maxT

/-- R169: the value of a parameter lies in its range. -/
def paramInRange (k : Config.Param) (v : Nat) : Prop := (Config.rows.get k).low ≤ v ∧ v ≤ (Config.rows.get k).high

/-- R169, R175: every parameter, in effect, pending or retained, lies in its range. -/
def State.settingsInRange (s : State) : Prop :=
  ∀ k : Config.Param, paramInRange k (s.value k) ∧ (∀ v ∈ s.settings.pending.get k, paramInRange k v) ∧
    paramInRange k (s.store.copy.values.get k)

/-- R83: the history, in effect or retained, holds at most eight entries. -/
def State.historyFits (s : State) : Prop :=
  s.scale.history.length ≤ Config.historyRoom ∧ s.store.copy.history.length ≤ Config.historyRoom

/-- R88: the tags that armed groups hold are distinct values from 1 to 15. -/
def State.tagsDistinct (s : State) : Prop := s.heldTags.Nodup ∧ ∀ k ∈ s.heldTags, 1 ≤ k ∧ k ≤ 15

/-- R34: no two entries of the Source Table hold one key. -/
def State.keysDistinct (s : State) : Prop :=
  ∀ i j, (s.source i).key.isSome = true → (s.source i).key = (s.source j).key → i = j

/-- R83: the generations of a history, newest first, run down from the newest, which is `g`. -/
def generationsRun (g : BitVec 16) (history : List HistoryEntry) : Prop :=
  ∀ (i : Nat) (e : HistoryEntry), history.reverse[i]? = some e → e.gen = g - BitVec.ofNat 16 i

/-- R83: the generations of the history, in effect or retained, are consecutive, and the newest equals G. -/
def State.generationsRun (s : State) : Prop :=
  Sys2Proof.Machine.generationsRun s.scale.g s.scale.history ∧
  Sys2Proof.Machine.generationsRun s.store.copy.g s.store.copy.history

/-- R22: the target of a BASELINE lies in 0 to 255. -/
def Change.targetFits : Change → Prop
  | .baseline x => x ≤ 255
  | _ => True

/-- R22, R35: a view's offset lies in 0 to 255, and that of an INSERT below 255. -/
def View.fits (v : View) : Prop := v.ds ≤ 255 ∧ ∀ l ∈ v.leap, l.kind = .insert → v.ds < 255

/-- R22, R80: D, in effect or retained, lies in 0 to 255, and below 255 through an inserted second; so do the targets
and the views it can come from. -/
def State.scaleInRange (s : State) : Prop :=
  (∀ d ∈ s.scale.d, d ≤ 255 ∧ (s.scale.inserting.isSome = true → d < 255)) ∧
  (∀ d ∈ s.store.copy.d, d ≤ 255) ∧
  (∀ r ∈ s.records, r.change.targetFits) ∧ (∀ r ∈ s.store.copy.records, r.change.targetFits) ∧
  ∀ i, (∀ v ∈ (s.source i).candidate, v.fits) ∧ ∀ v ∈ (s.source i).vouched, v.fits

/-- R16, R85, R86: armed groups have distinct affected seconds. An ARMED BASELINE affects the next second, no re-time is
pending beside it, and no leap is ARMED or SETTLING; any other BASELINE has no affected second. -/
def State.baselinesNext (s : State) : Prop :=
  (s.scale.groups.map Group.affected).Nodup ∧
  (∀ r ∈ s.records, r.change.isBaseline = true → r.state = .armed →
    (∃ t, s.time.t = some t ∧ t < Config.maxT ∧ r.affected = some (t + 1) ∧ ∀ x ∈ s.time.pendingTime, x = t + 1) ∧
    ∀ x ∈ s.records, x.leapBusy = false) ∧
  ∀ r ∈ s.records, r.change.isBaseline = true → r.state ≠ .armed → r.affected = none

/-- R29, R38, R88: the fields of records and source entries fit the bits of R187 and R188: a run is at most 15, and only a
record that is ARMED or SETTLING (a leap) has a tag and a window. R175: a retained record is QUALIFIED, HELD or ARMED. -/
def State.fieldsFit (s : State) : Prop :=
  (∀ i, (s.source i).run ≤ 15) ∧
  (∀ r ∈ s.records, r.fitsLayout ∧ (r.state = .settling → r.change.isLeap = true) ∧
    (r.state ≠ .armed → r.state ≠ .settling → r.tag = none ∧ r.window = none)) ∧
  ∀ r ∈ s.store.copy.records, r.state = .qualified ∨ r.state = .held ∨ r.state = .armed

/-- R18, R19: while D is known, a leap record that is neither ARMED nor SETTLING has the affected second of its kind and its
effective day on D. -/
def State.leapsReckoned (s : State) : Prop :=
  ∀ r ∈ s.records, ∀ d k e, s.scale.d = some d → r.change = .leap k e → r.state ≠ .armed → r.state ≠ .settling →
    r.affected = some (match k with
      | .insert => 86400 * e + d
      | .delete => 86400 * e + d - 1)

/-- R171, R173: every board stands in the order of R173, and no entry joined after the present moment. -/
def State.boardsOrdered (s : State) : Prop :=
  ∀ p : Pos, (s.lane p).board.Pairwise BoardEntry.goesFirst ∧ ∀ e ∈ (s.lane p).board, e.joined ≤ s.moment

/-- R171: no board holds more than 48 entries. -/
def State.boardsFit (s : State) : Prop := ∀ p : Pos, (s.lane p).board.length ≤ Config.boardRoom

/-- R44, R104, R155, R162: an EMPTY position has the lane of start-up (so no pending notice), no role, no lead, no
rule set claim, and no source entry in LISTENING or VOUCHING; a line card never has a role. -/
def State.emptyIsClear (s : State) : Prop :=
  (∀ p : Pos, s.occupied p = false →
    s.lane p = .initial ∧ (s.pos p).role = .none ∧ s.holdsLead p = false ∧
    (∀ c ∈ s.loader.claimer, ctlPos c ≠ p) ∧
    ∀ i, ∀ k ∈ (s.source i).key, k.pos = p →
      (s.source i).state ≠ .listening ∧ (s.source i).state ≠ .vouching) ∧
  ∀ p : Pos, 2 ≤ p.val → (s.pos p).role = .none

/-- R86: an ARMED record carries the tag and the affected second of an armed group. No record returns from CONTESTED
to ARMED or SETTLING (R66, R68). -/
def State.armedInGroups (s : State) : Prop :=
  (∀ r ∈ s.records, r.state = .armed →
    ∃ g ∈ s.scale.groups, r.tag = some g.tag ∧ r.affected = some g.affected) ∧
  ∀ r ∈ s.records, ∀ st ∈ r.preContest, st ≠ .armed ∧ st ≠ .settling

/-- R56: the records stand in schedule order. -/
def State.recordsOrdered (s : State) : Prop := s.records.Pairwise fun a b => a.before b = true

/-- R55: a zone change is one of zones 1 to 15. -/
def Change.zoneFits : Change → Bool
  | .shift z _ _ => decide (1 ≤ z) && decide (z ≤ 15)
  | _ => true

/-- R55: at most five changes of the scale class, no two of one kind and key, and zone changes of zones 1 to 15. -/
def changesFit (l : List Change) : Prop :=
  (l.filter fun c => !c.isShift).length ≤ Config.scaleRoom ∧
  (l.Pairwise fun a b => a.sameKey b = false) ∧
  ∀ c ∈ l, c.zoneFits = true

/-- R54: ids are distinct numbers from 1 to 255. -/
def idsFit (l : List Nat) : Prop := l.Nodup ∧ ∀ i ∈ l, 1 ≤ i ∧ i ≤ 255

/-- R54, R55: the quotas and the ids of the records, in the schedule and in the copy. -/
def State.recordsFit (s : State) : Prop :=
  changesFit (s.records.map Record.change) ∧ idsFit (s.records.map Record.id) ∧
  changesFit (s.store.copy.records.map RetainedRecord.change) ∧
  idsFit (s.store.copy.records.map RetainedRecord.id)

/-- R65: the withdrawn list holds at most eight items, no two of one kind and key. -/
def State.listFits (s : State) : Prop :=
  s.sched.listed.length ≤ Config.listRoom ∧ s.sched.listed.Pairwise fun a b => a.change.sameKey b.change = false

/-- R113: a board holds one offer at most. -/
def State.oneOffer (s : State) : Prop :=
  ∀ p : Pos, ((s.lane p).board.filter fun e => e.notice.isOffer).length ≤ 1

/-- R50, R51, R57, R60: in `t` entry `i` is another one than in `s`, and what that prompts has been done. A new effective view
or key clears the trailing mark; where the state, the key or the vouched view has changed, the tally of the state with the
new entry has been taken (but for lanes and store, `t` is its outcome), and SOURCE_STATE stands on the controllers' boards. -/
def Reheard (i : Fin 16) (s t : State) : Prop :=
  let old := s.source i
  let new := t.source i
  let keeps := old.key = new.key ∧ old.vouched.map (View.effective s.time.t) = new.vouched.map (View.effective s.time.t)
  let u : State := { s with
    sources := s.sources.put i new
    sched := { s.sched with marks := if keeps then s.sched.marks else s.sched.marks.put i false } }
  let changes := old.state ≠ new.state ∨ old.key ≠ new.key ∨ old.vouched ≠ new.vouched
  Unchanged [.lanes, .store] (if changes then u.tally else u) t ∧
  (changes → s.recordsFit → ∀ c, s.occupied (ctlPos c) = true → (s.lane (ctlPos c)).board.length ≤ 10 →
    ∃ e ∈ (t.lane (ctlPos c)).board, e.notice = .sourceState i new (new.spent s.time.t))

/-- R47, R60: the trailing marks after a boundary from `s` to `t` at which D has left the known value `old` (none: it has not).
An entry whose effective view reads `old` is marked; of the others, one that keeps its vouched view keeps its mark, unless the
view has become spent, or not spent again. -/
def MarksFollow (old : Option Nat) (s t : State) : Prop :=
  ∀ i v, (t.source i).vouched = some v →
    (some (v.effective t.time.t).ds = old → t.sched.marks.get i = true) ∧
    (some (v.effective t.time.t).ds ≠ old → (s.source i).vouched = some v → (s.source i).state ≠ .free →
      t.sched.marks.get i = if v.spent t.time.t = v.spent s.time.t then s.sched.marks.get i else false)

/-- R22, R91: a record of a due group is applied on the D of `s`: a leap only where it carries D to a value in 0 to 255. -/
def State.applies (s : State) (r : Record) : Bool :=
  match r.change, s.scale.d with
  | .leap .insert _, some d => decide (d < 255)
  | .leap .delete _, some d => decide (0 < d)
  | .leap _ _, none => false
  | _, _ => true

/-- R132: in `u` the schedule of `s` stands as a SHIFT_ZONE of zone `z` to offset `o` at `i`, accepted in second `n`, leaves it
for the tally, lanes aside: the zone's record is the new one, under the next id (R54), and every other one stands. -/
def ZonePlaced (z : Nat) (o : Int) (i n : Nat) (s u : State) : Prop :=
  let ofZone (x : Record) : Prop := ∃ o i, x.change = .shift z o i
  Unchanged [.sched, .rules, .lanes] s u ∧
  (∀ x, ¬ ofZone x → (x ∈ u.records ↔ x ∈ s.records)) ∧
  (∀ x, ofZone x → (x ∈ u.records ↔
    x = { id := u.sched.cursor, change := .shift z o i, affected := some i, origin := .operator, state := .qualified,
          preContest := none, vouch := 0, oppose := 0, restored := false, late := false, tag := none, window := none,
          created := some n, ref := none, roll := none })) ∧
  (s.sched.cursor ≤ 255 →
    let after (k : Nat) : Nat := (s.sched.cursor + k) % 255 + 1
    ∃ k, u.sched.cursor = after k ∧ (∀ x ∈ u.records, ¬ ofZone x → x.id ≠ after k) ∧
      ∀ j, j < k → ∃ x ∈ u.records, ¬ ofZone x ∧ x.id = after j) ∧
  (s.recordsOrdered → u.recordsOrdered) ∧
  ((∀ x ∈ s.records, ofZone x → x.origin ≠ .sources) → u.sched.listed = s.sched.listed) ∧
  u.sched.refused = s.sched.refused ∧ u.sched.agreement = s.sched.agreement ∧ u.sched.marks = s.sched.marks

/-- R75, step 7: in `u` the schedule of `s` stands as a SET_OFFSET of `v` leaves it for the tally, lanes aside: the records,
the id cursor (R54), the withdrawn list, the armed groups. -/
def OffsetPlaced (v : Nat) (s u : State) : Prop :=
  let c := Change.baseline v
  let replaced := s.records.filter fun x => x.change.isBaseline && decide (x.change ≠ c)
  let others := s.records.filter fun x => !x.change.isBaseline
  let found := s.records.any fun x => decide (x.change = c)
  let age (x : Record) : Nat := match x.created with
    | none => 0
    | some n => n + 1
  let first (x y : Record) : Prop := x.vouch < y.vouch ∨ x.vouch = y.vouch ∧
    (age x < age y ∨ age x = age y ∧ x.id ≤ y.id)
  let heardLeap (x : Record) : Prop := x ∈ others ∧ x.change.isLeap = true ∧ x.state = .heard
  let full := found = false ∧ 5 ≤ (others.filter Record.isScale).length
  let displaced (x : Record) : Prop := full ∧ heardLeap x ∧ ∀ y, heardLeap y → first x y
  let sources := replaced.filter fun x => decide (x.origin = .sources)
  let listed := if sources = [] then s.sched.listed
    else lastN 8 ((s.sched.listed.filter fun i => !sources.any fun x => decide (x.change = i.change)) ++
      sources.map fun x => ⟨x.change, .replaced, s.time.t⟩)
  Unchanged [.sched, .scale, .lanes] s u ∧ u.sched.listed = listed.filter (fun i => decide (i.change ≠ c)) ∧
  u.sched.refused = s.sched.refused ∧ (∀ i, u.sched.marks.get i = s.sched.marks.get i) ∧
  (s.recordsOrdered → u.recordsOrdered) ∧
  (∀ x, x.change ≠ c → (x ∈ u.records ↔ x ∈ others ∧ ¬ displaced x)) ∧
  (∀ x ∈ s.records, x.change = c →
    u.sched.cursor = s.sched.cursor ∧
    ∀ y, y.change = c → (y ∈ u.records ↔ y = { x with state := .qualified, origin := .operator, preContest := none })) ∧
  (found = false → ∀ y, y.change = c → (y ∈ u.records ↔
    y = { id := u.sched.cursor, change := c, affected := none, origin := .operator, state := .qualified, preContest := none,
          vouch := 0, oppose := 0, restored := false, late := false, tag := none, window := none, created := s.time.t,
          ref := none, roll := none })) ∧
  (found = false → s.sched.cursor ≤ 255 →
    let after (k : Nat) : Nat := (s.sched.cursor + k) % 255 + 1
    ∃ k, u.sched.cursor = after k ∧ (∀ x ∈ u.records, x.change ≠ c → x.id ≠ after k) ∧
      ∀ j, j < k → ∃ x ∈ u.records, x.change ≠ c ∧ x.id = after j) ∧
  u.scale = { s.scale with groups := u.scale.groups } ∧
  (∀ g, g ∈ u.scale.groups → g ∈ s.scale.groups) ∧
  ((∀ x ∈ replaced, x.state ≠ .armed) → u.scale = s.scale) ∧
  ((∃ x ∈ replaced, x.state = .armed) → ∀ g ∈ s.scale.groups,
    g ∈ u.scale.groups ↔ ∃ x ∈ s.records, x ∉ replaced ∧ x.state = .armed ∧ x.tag = some g.tag)

/-- A run is safe when the device never stops. -/
def goesOn (s : State) : Prop := ∃ s', step s = .next s'

end Sys2Proof.Machine
end

