-- ==== Sys2Proof/Certificates/Slice0/Obligations.lean ====
section
/-! DEFINITION. The statements for the provers. -/

open Sys2Proof Sys2Proof.Machine

/-! ### Steps and commands -/

/-- A step takes the command at the front of the queue, first in, first out, and runs it on the device with the rest
of the queue; on an empty queue the device idles (the model's choice, log 2). -/
def Obligations.StepTakesFront : Prop :=
  ∀ s : State,
    (∀ c rest, s.pending = c :: rest → step s = exec c (s.withQueue rest)) ∧
    (s.pending = [] → step s = .next s)

/-- The model's choice (log 20, log 2): every command of the table answers some next state in every state, and leaves the
queue as it is. (That a command comes to its own effect is said in the statements about it, and that one that cannot come
changes nothing in NothingIsTaken.) -/
def Obligations.EveryCommandCompletes : Prop :=
  ∀ (c : Instr) (s : State), ∃ t, exec c s = .next t ∧ t.pending = s.pending

/-- R2, R23, R80, R82, R118, R129, R149, R169: T, the labels of the second, D, its provisional flag, G, INSERTING, the
history, the zone offsets, the configuration in effect and the settings of the positions change at second boundaries
(and at start-up) alone. R148: what the frame in progress shows changes only where a frame begins (and, R161, where a
parcel begins in it). -/
def Obligations.BoundariesAlone : Prop :=
  ∀ (c : Instr) (s t : State), worksBoundary s c = false → exec c s = .next t →
    t.time.t = s.time.t ∧ t.labels = s.labels ∧
    t.scale.d = s.scale.d ∧ t.scale.provisional = s.scale.provisional ∧ t.scale.g = s.scale.g ∧
    t.scale.inserting = s.scale.inserting ∧ t.scale.history = s.scale.history ∧
    t.zones = s.zones ∧ t.settings.values = s.settings.values ∧
    (∀ p, (t.pos p).mode = (s.pos p).mode ∧ (t.pos p).zone = (s.pos p).zone) ∧
    (showsAnew c = false → t.bus = s.bus)

/-- The model's reading of commands that cannot come (log 20): a device without main power, with RSTN low or with
REFCLK stopped stands still (R1, R159), and a lane that is not OPEN, or in a frame past 948 (log 5), or of an EMPTY
position takes no parcel (R160, R162, R163). -/
def Obligations.NothingIsTaken : Prop :=
  ∀ (c : Instr) (s : State),
    (s.running = false → isPowerCommand c = false → exec c s = .next s) ∧
    (∀ p r, requestOf c = some (p, r) → s.hears p = false → exec c s = .next s)

/-! ### Invariants: kept by every step, from every state that has them -/

/-- R113, R114, R175, R176: after every step the Retained Store holds every item as its owner holds it, item by item (D is
D + 1 through an inserted second; a record is held in QUALIFIED, HELD or ARMED, with the fields the rule names), and a board
holds an offer exactly where the position is JOINING or LAGGING, does not hold G mod 256, and has not been offered for the
pair of held generation and G; it never comes to hold two. (That D + 1 is reckoned from D as it stands is the model's choice,
log 54.) -/
def Obligations.StoreFollowsOwners : Prop :=
  (∀ s t : State, s.settled → step s = .next t →
    t.settled ∧
    (let c := t.store.copy;
    c.d = (if t.scale.inserting = none then t.scale.d else t.scale.d.map (· + 1)) ∧ c.g = t.scale.g ∧
    c.history = t.scale.history ∧
    c.records = (t.records.filter fun r =>
        decide (r.state = .qualified ∨ r.state = .held ∨ r.state = .armed)).map (fun r =>
      { id := r.id, change := r.change, origin := r.origin, state := r.state, created := r.created, ref := r.ref }) ∧
    (∀ z, c.zones.get z = t.zones.get z) ∧ c.rules = t.rules ∧ (∀ k, c.values.get k = t.settings.values.get k) ∧
    ∀ p, c.positions.get p = ((t.pos p).mode, (t.pos p).zone)) ∧
    ∀ p, (∃ e ∈ (t.lane p).board, e.notice = .offer) ↔
      ((t.pos p).state = .joining ∨ (t.pos p).state = .lagging) ∧
      (t.pos p).held ≠ some (t.scale.g.setWidth 8) ∧ (t.pos p).cursor ≠ some ((t.pos p).held, t.scale.g)) ∧
  ∀ s t : State, s.oneOffer → step s = .next t → t.oneOffer

/-- R88: the tags that armed groups hold stay distinct values from 1 to 15. R34: no two entries of the Source Table come
to hold one key. -/
def Obligations.TagsStayDistinct : Prop :=
  (∀ s t : State, s.tagsDistinct → step s = .next t → t.tagsDistinct) ∧
  ∀ s t : State, s.keysDistinct → step s = .next t → t.keysDistinct

/-- R171, R172: a board never holds more than 48 entries, and its entries stay in the order of R173, none joined later than now.
What queuing a notice does to a board: a WITHDRAWN or MISSED
removes the pending ARMED of its record; an entry of the notice's kind and subject is replaced in place, the order of the
board kept (a newer APPLIED keeps the first generation, R93, but for that of a CLEAR_SCALE, R96); else the notice joins as the
newest, before those of its moment that R173 puts behind it; a full board loses the oldest entry of the lowest class, never
the offer (of entries of one moment the first in the order of R173: the model's choice, log 44). -/
def Obligations.BoardsStayWithinRoom : Prop :=
  (∀ s t : State, s.boardsFit → step s = .next t → t.boardsFit) ∧
  (∀ s t : State, s.boardsOrdered → step s = .next t → t.boardsOrdered) ∧
  ∀ (m : Nat) (n : Notice) (b : List BoardEntry),
    let same (x : BoardEntry) : Prop := x.notice.code = n.code ∧ x.notice.subject = n.subject
    let kept := b.filter fun x => !clearsArmed n x
    (∀ x, clearsArmed n x = true ↔
      ∃ a, x.notice = .armed a ∧ ((∃ c why, n = .withdrawn a.id c why) ∨ ∃ c was a', n = .missed a.id c was a')) ∧
    ((∃ x ∈ kept, same x) →
      (queueOn m n b).length = kept.length ∧
      ∀ (i : Nat) (x : BoardEntry), kept[i]? = some x →
        (¬same x → (queueOn m n b)[i]? = some x) ∧
        (same x → (queueOn m n b)[i]? = some { x with notice :=
          match n, x.notice with
          | .applied _ l tag r k false, .applied f _ _ _ _ _ => .applied f l tag r k false
          | _, _ => n })) ∧
    ((∀ x ∈ kept, ¬same x) → kept.Pairwise BoardEntry.goesFirst →
      (queueOn m n b).Pairwise BoardEntry.goesFirst ∧
      (kept.length < 48 → (queueOn m n b).Perm (⟨m, n⟩ :: kept)) ∧
      (kept.length = 48 → ∃ x, (x :: queueOn m n b).Perm (⟨m, n⟩ :: kept) ∧ x.notice ≠ .offer ∧
        ∀ y, y = ⟨m, n⟩ ∨ y ∈ kept → y.notice ≠ .offer →
          x.notice.classNumber < y.notice.classNumber ∨
            x.notice.classNumber = y.notice.classNumber ∧ x.goesFirst y))

/-- R1, R2, R16, R169: the frame index, the bus clock, T, the pending time value and every parameter (in effect, pending
and retained) stay in their ranges. R83: the history keeps at most eight entries, of consecutive generations, the newest
equal to G. R22: D stays in 0 to 255, by the ranges of what it is set from, because an ARMED BASELINE affects the next
second and stands beside no leap that is ARMED or SETTLING (R85), and because no two records have one id (R54). R29, R38, R88, R169: tags, windows and runs stay within the bits that R187 and
R188 give them. -/
def Obligations.ValuesStayInRange : Prop :=
  (∀ s t : State, s.timeInRange ∧ s.settingsInRange ∧ s.historyFits → step s = .next t →
    t.timeInRange ∧ t.settingsInRange ∧ t.historyFits) ∧
  (∀ s t : State, s.generationsRun → step s = .next t → t.generationsRun) ∧
  (∀ s t : State, s.scaleInRange ∧ s.baselinesNext ∧ s.armedInGroups ∧ s.recordsFit → step s = .next t →
    t.scaleInRange ∧ t.baselinesNext ∧ t.armedInGroups ∧ t.recordsFit) ∧
  ∀ s t : State, s.fieldsFit ∧ s.settingsInRange ∧ s.tagsDistinct ∧ s.armedInGroups ∧ s.recordsFit → step s = .next t →
    t.fieldsFit ∧ t.settingsInRange ∧ t.tagsDistinct ∧ t.armedInGroups ∧ t.recordsFit

/-- R44, R104, R162: an EMPTY position has no pending notice, no role, no lead, no rule set claim, and no source
entry in LISTENING or VOUCHING. -/
def Obligations.EmptyPositionsStayClear : Prop :=
  ∀ s t : State, s.emptyIsClear → step s = .next t → t.emptyIsClear

/-- R86, R88: every ARMED record carries the tag and the affected second of an armed group. -/
def Obligations.ArmedRecordsStayInGroups : Prop :=
  ∀ s t : State, s.armedInGroups → step s = .next t → t.armedInGroups

/-- R56: the records stay in schedule order. R19, R77: whatever becomes of D, every leap record in HEARD, CONTESTED, QUALIFIED or
HELD has the affected second that its kind and effective day give on D, while D is known (said of records with the ids of
R54). -/
def Obligations.RecordsStayInOrder : Prop :=
  (∀ s t : State, s.recordsOrdered → step s = .next t → t.recordsOrdered) ∧
  ∀ s t : State, s.leapsReckoned ∧ s.recordsFit → step s = .next t → t.leapsReckoned ∧ t.recordsFit

/-- R54, R55: ids stay distinct numbers from 1 to 255, the scale class keeps its quota of five, and no two records
have one kind and key. R65: nor do two items of the withdrawn list, which keeps at most eight. -/
def Obligations.RecordsStayWithinQuota : Prop :=
  (∀ s t : State, s.recordsFit → step s = .next t → t.recordsFit) ∧
  ∀ s t : State, s.listFits → step s = .next t → t.listFits

/-- The state after reset has every invariant. (That it runs, and the values of reset that the data book does not give,
are the model's choice, logs 1 and 52.) -/
def Obligations.ResetIsInOrder : Prop :=
  State.reset.settled ∧ State.reset.tagsDistinct ∧ State.reset.keysDistinct ∧ State.reset.boardsFit ∧
  State.reset.timeInRange ∧ State.reset.settingsInRange ∧ State.reset.historyFits ∧ State.reset.generationsRun ∧
  State.reset.scaleInRange ∧ State.reset.baselinesNext ∧ State.reset.fieldsFit ∧ State.reset.emptyIsClear ∧ State.reset.armedInGroups ∧
  State.reset.recordsOrdered ∧ State.reset.recordsFit ∧ State.reset.listFits ∧ State.reset.oneOffer ∧
  State.reset.leapsReckoned ∧ State.reset.boardsOrdered ∧
  State.reset.running = true

/-! ### Power, reset, clock, start-up -/

/-- R1, R146, R159, R176, R177: what the loss of main power, VBAK, the RESET line and the reference clock do. The
store keeps its copy and, but for VBAK, its indicator; a frame is cut or held at the bus clock it has reached. (That such
an event changes its own pin and leaves the rest of the state standing, also after a loss of main power, is the model's
choice, log 32; the count of boundaries that find VBAK low is log 7.) -/
def Obligations.PowerAndClock : Prop :=
  ∀ (s : State) (clk : BitVec 12) (n : Nat),
    exec .mainPowerLoss s = .next { s with pins := { s.pins with powered := false } } ∧
    exec (.vbakLow n) s = .next { s with store := { s.store with good := false },
                                         pins := { s.pins with vbakLowFor := n } } ∧
    exec .refclkResume s = .next { s with pins := { s.pins with refclk := true } } ∧
    (s.running = true →
      exec (.resetAssert clk) s = .next { s with
        pins := { s.pins with rstn := false },
        time := { s.time with busClock := max s.time.busClock clk.toNat } } ∧
      exec (.refclkStop clk) s = .next { s with
        pins := { s.pins with refclk := false },
        time := { s.time with busClock := max s.time.busClock clk.toNat } }) ∧
    (s.running = false →
      exec (.resetAssert clk) s = .next { s with pins := { s.pins with rstn := false } } ∧
      exec (.refclkStop clk) s = .next { s with pins := { s.pins with refclk := false } })

/-- R5, R34, R78, R79, R100, R128, R137, R159, R162, R177, R180: a start-up without backup good, from whatever state:
every block takes its start-up values, and the boundary of frame 0 sets the indicator unless VBAK is still low. (The
values of reset that the data book does not give are the model's choice, logs 1 and 52; VBAK's recovery is log 7.) -/
def Obligations.StartUpCold : Prop :=
  ∀ s : State, s.store.good = false →
    exec .startUp s = .next { State.reset with
      pins := { powered := true, rstn := true, refclk := true, vbakLowFor := s.pins.vbakLowFor - 1 }
      store := { copy := .initial, good := s.pins.vbakLowFor == 0 }
      pending := s.pending }

/-- R79, R159, R178, R179: a start-up with backup good restores D as provisional, G, the history, the zone offsets,
the rule set store, the configuration, the settings of the positions and the records; a BASELINE to the restored D is
withdrawn MET in the tally of frame 0. Nothing else is restored. (That the span of the rehearsal and the length and the
serial of the Loader start at 0 is the model's choice, log 1, its stopped timer log 52, and that the last mark bit of a
tracker starts clear, log 15.) -/
def Obligations.StartUpRestores : Prop :=
  ∀ s : State, s.store.good = true → s.settingsInRange → s.recordsFit →
    (∀ r ∈ s.store.copy.records, r.state = .qualified ∨ r.state = .held ∨ r.state = .armed) →
    ∃ t, exec .startUp s = .next t ∧
      t.scale = { Scale.initial with
        d := s.store.copy.d, provisional := s.store.copy.d.isSome, g := s.store.copy.g,
        history := s.store.copy.history } ∧
      t.zones = s.store.copy.zones.put 0 0 ∧ t.rules = s.store.copy.rules ∧
      t.settings = { values := s.store.copy.values, pending := .fill 12 none } ∧
      t.roster = s.store.copy.positions.map (fun x => Position.initial x.1 x.2) ∧
      t.time = .initial ∧ t.sources = .fill 16 .initial ∧ t.lanes = .fill 12 .initial ∧ t.loader = .initial ∧
      t.rehearsal = .initial ∧ t.sched.listed = [] ∧ t.sched.refused = none ∧
      t.sched.cursor = (s.store.copy.records.map RetainedRecord.id).foldl max 0 ∧
      (∀ r ∈ s.store.copy.records, (∀ d, s.store.copy.d = some d → r.change ≠ .baseline d) →
        r.restore s.store.copy.d ∈ t.records) ∧
      (∀ x ∈ t.records, ∃ r ∈ s.store.copy.records, x = r.restore s.store.copy.d) ∧
      (∀ d, s.store.copy.d = some d → ∀ x ∈ t.records, x.change ≠ .baseline d) ∧
      (∀ p, t.labels.pairs.get p = ⟨s.store.copy.d.getD 0, 0⟩) ∧ t.store.good = true

/-! ### The end of a frame -/

/-- R1, R9, R101, R148, R156: a frame ends, whatever marks its segments carry (an undriven controller slot included): the
frame index is raised by one, or the second boundary is due after frame 999, or a realignment at the frame to come, which
a counted mark alone makes due (the model works either with the next command, log 3). The next frame shows the state as it
begins. The samplers of every position take the frame's fields, the role at the controller positions alone (R155). R122:
the latency of a rehearsal is counted. R139: where no parcel is completed, the timer of a load falls by one (but in the
frame of the claim or restart, log 34) and a load whose timer comes to 0 is gone (its length, serial and stopped timer are
then 0: the model's choices, logs 40 and 52). A FRAME_END that finds a boundary or a realignment due works it first, and is
then the end of frame 0 of the second that begins (log 3). -/
def Obligations.FrameEndCounts : Prop :=
  (∀ (s : State) (segs : List (BitVec 48)) (order : FrameOrder), s.running = true →
    ∀ command : Instr, command = .secondBoundary ∧ s.time.due = .second ∨
      command = .realignment ∧ (∃ p, s.time.due = .realign p) →
    ∃ u, exec command s = .next u ∧ u.running = true ∧ u.time.due = .nothing ∧ u.time.frame = 0 ∧
      exec (.frameEnd segs order) s = exec (.frameEnd segs order) u) ∧
  ∀ (s : State) (segs : List (BitVec 48)) (order : FrameOrder), s.running = true → s.time.due = .nothing →
    ∃ t, exec (.frameEnd segs order) s = .next t ∧ t.time.busClock = 0 ∧
      (∀ q, t.time.due = .realign q →
        q = (s.time.frame + 1) % 1000 ∧ q ≠ 0 ∧ t.time.frame = s.time.frame ∧ ∃ c, s.counted segs c = true) ∧
      ((∀ q, t.time.due ≠ .realign q) →
        (s.time.frame + 1 < 1000 → t.time.frame = s.time.frame + 1 ∧ t.time.due = .nothing) ∧
        (1000 ≤ s.time.frame + 1 → t.time.frame = s.time.frame ∧ t.time.due = .second)) ∧
      (t.time.due = .nothing → t.time.frame ≠ 980 → t.bus = t.frameContent) ∧
      (∀ p, let x := s.pos p
        let c := segmentOf segs p
        (t.pos p).sIntent = x.sIntent.feed (readIntent c.intent) ∧ (t.pos p).sHeld = x.sHeld.feed c.held ∧
        (t.pos p).sReady = x.sReady.feed c.ready.toNat ∧
        (t.pos p).sRole = if p.val < 2 then x.sRole.feed (readRole c.role) else x.sRole) ∧
      (∀ k, s.rehearsal.phase = .armed → s.rehearsal.tag = some k → t.rehearsal.phase ≠ .none →
        ∀ p, let d := s.rehearsal.detail.get p
          (t.rehearsal.detail.get p).reached = (d.reached || (t.pos p).ready == k) ∧
          (t.rehearsal.detail.get p).latency =
            if d.reached = true ∨ (t.pos p).ready = k then d.latency else min 65535 (d.latency + 1)) ∧
      (s.loader.state = .loading → s.arrivals segs = [] →
        (∀ c, s.loader.claimer = some c → t.occupied (ctlPos c) = true) →
        let n := if s.loader.fresh then s.loader.timer else s.loader.timer - 1
        t.loader = if n = 0 then .initial else { s.loader with timer := n, fresh := false })

/-- R4 to R10: what a frame does to each mark tracker, and the realignment that a mark counted by the lead holder's tracker,
ALIGNED with it, makes due at a position other than 0, and nothing else does. (The model's choices: the mark is taken before the
miss of the same frame, log 23; the mark bit is followed while the position is EMPTY, log 15, and a mark in the frame in which
it leaves EMPTY is ignored, log 35; the holder is the one the frame began with or the one it ends with, as the sender's order
says, log 6.) -/
def Obligations.FrameEndTracksMarks : Prop :=
  ∀ (s : State) (segs : List (BitVec 48)) (order : FrameOrder), s.running = true → s.time.due = .nothing →
    ∃ t, exec (.frameEnd segs order) s = .next t ∧
      (∀ c, let k := s.time.tracker c
        let n := min 1001 (k.interval + 1)
        let bit := (segmentOf segs (ctlPos c)).mark
        let next := { k with interval := n, lastBit := bit }
        t.time.tracker c =
          if s.occupied (ctlPos c) = true ∧ t.occupied (ctlPos c) = false then
            { Tracker.initial with lastBit := bit }
          else if k.mode = .aligned then
            if s.counted segs c then { next with misses := 0, interval := 0 }
            else if n < 1001 then next
            else if k.misses + 1 < 3 then { next with misses := k.misses + 1, interval := 1 }
            else { next with mode := .flywheel, misses := 3, run := 0 }
          else if s.counted segs c then
            if k.run < 3 then { next with run := k.run + 1, interval := 0 }
            else { next with mode := .aligned, run := 4, misses := 0, interval := 0 }
          else if s.marked segs c then
            { next with candidate := some ((s.time.frame + 1) % 1000), run := 1, interval := 0 }
          else next) ∧
      (let strikes (c : Ctl) : Prop :=
        (if order.marksFirst then s.time.holder else t.time.holder) = some c ∧ s.counted segs c = true ∧
        ((s.time.tracker c).mode = .aligned ∨ 3 ≤ (s.time.tracker c).run) ∧ (s.time.frame + 1) % 1000 ≠ 0;
      (∀ c, strikes c → t.time.due = .realign ((s.time.frame + 1) % 1000)) ∧
      ((∀ c, ¬ strikes c) → t.time.due = if s.time.frame + 1 < 1000 then .nothing else .second))

/-- R11 to R13: after every frame the lead holder and the pending claim follow from the holder before it and from the
qualified roles of the controllers that are not EMPTY; where the holder changes, LEAD_CHANGED with the new holder is queued
to the controllers (said for a frame in which no parcel is completed, where nothing else is afoot and the board has
room). -/
def Obligations.FrameEndArbitratesLead : Prop :=
  ∀ (s : State) (segs : List (BitVec 48)) (order : FrameOrder), s.running = true → s.time.due = .nothing →
    ∃ t, exec (.frameEnd segs order) s = .next t ∧
      let wants (c : Ctl) : Bool := decide ((t.pos (ctlPos c)).role = .lead) && t.occupied (ctlPos c)
      t.time.holder =
        (match s.time.holder with
          | some h => if wants h then some h else if wants (otherCtl h) then some (otherCtl h) else none
          | none => if wants .a then some .a else if wants .b then some .b else none) ∧
      t.time.claim =
        (match t.time.holder with
          | some h => if wants (otherCtl h) then some (otherCtl h) else none
          | none => none) ∧
      ∀ c, t.time.holder ≠ s.time.holder → s.still → s.records = [] → s.arrivals segs = [] →
        t.occupied (ctlPos c) = true → (s.lane (ctlPos c)).board.length ≤ 10 →
        t.told (ctlPos c) (.leadChanged t.time.holder)

/-- R101 to R103, R105 to R107, R109: how a frame moves a position by its qualified intent and held generation, with its lag timer,
its take check and, where no transfer is afoot on its lane as the frame ends, its offer cursor (R113, R114): entry to LAGGING or
IN_STEP sets the timer to 0, entry to LAGGING or from another state to JOINING leaves no cursor, and a position IN_STEP has no
offer pending. (That an
intent is judged before a held generation of the same frame is the model's choice, log 14. The end of frame 979 begins frame
980 with its roll call, log 3: of that see QuietFramesCallAndReset.) R116: SLOT_STATE tells the controllers of a position that
enters LAGGING or IN_STEP (said for a frame in which no parcel is completed, where nothing else is
afoot and the board has room). -/
def Obligations.FrameEndMovesPositions : Prop :=
  ∀ (s : State) (segs : List (BitVec 48)) (order : FrameOrder) (p : Pos), s.running = true →
    s.time.due = .nothing → s.time.frame ≠ 979 →
    ∃ t, exec (.frameEnd segs order) s = .next t ∧
      let x := s.pos p
      let y := t.pos p
      let c := segmentOf segs p
      let i := (x.sIntent.feed (readIntent c.intent)).steady.getD x.intent
      let h := (x.sHeld.feed c.held).steady.or x.held
      let k := (x.sReady.feed c.ready.toNat).steady.getD x.ready
      (i ≠ .idle → y.intent = i ∧ y.held = h ∧ y.ready = k) ∧
      (x.state = .empty → i = .idle → y.state = .empty) ∧
      (x.state = .empty → i ≠ .idle →
        y.lag = 0 ∧ y.takeCheck = none ∧ ((t.lane p).sending = none → y.cursor = none) ∧
        y.state = if i = .following ∧ h = some s.g8 then .inStep else .joining) ∧
      (x.state ≠ .empty → i ≠ .idle → i = x.intent → h = x.held →
        y.state = x.state ∧ y.lag = x.lag ∧ y.takeCheck = x.takeCheck ∧
        ((t.lane p).sending = none → y.cursor = x.cursor)) ∧
      (x.state ≠ .empty → i ≠ .idle → i = x.intent → h ≠ x.held →
        y.state =
          (match x.state with
          | .joining => if i = .following ∧ h = some s.g8 then .inStep else .joining
          | .inStep => if h ≠ some s.g8 ∧ x.takeCheck = none then .lagging else .inStep
          | .lagging => if h = some s.g8 then .inStep else .lagging
          | other => other) ∧
        y.lag = (if y.state ≠ x.state then 0 else x.lag) ∧
        (let falls := x.state ≠ .lagging ∧ y.state = .lagging;
          y.takeCheck = (if falls then none else x.takeCheck) ∧
          ((t.lane p).sending = none → y.cursor = if falls then none else x.cursor))) ∧
      (x.state = .joining → i = .following → i ≠ x.intent →
        y.lag = 0 ∧ y.state = (if h = some s.g8 then .inStep else .joining) ∧ y.takeCheck = x.takeCheck ∧
        ((t.lane p).sending = none → y.cursor = x.cursor)) ∧
      (x.state ≠ .empty → i = .present → i ≠ x.intent →
        y.lag = 0 ∧ y.state = .joining ∧ y.takeCheck = (if x.state = .inStep then none else x.takeCheck) ∧
        ((t.lane p).sending = none → y.cursor = if x.state = .joining then x.cursor else none)) ∧
      (y.state = .inStep → ∀ e ∈ (t.lane p).board, e.notice ≠ .offer) ∧
      ∀ c, y.state ≠ x.state → (y.state = .inStep ∨ y.state = .lagging) → s.still → s.records = [] →
        s.arrivals segs = [] → t.occupied (ctlPos c) = true → (s.lane (ctlPos c)).board.length ≤ 10 →
        t.told (ctlPos c) (.slotState p y.report)

/-- R104, R162, R44, R140: a position whose qualified intent becomes IDLE goes EMPTY: its record, its lane and board, and its
rule set claim. Every entry of its sources that is not FREE, MUTED ones too, becomes STALE; where the frame completes no parcel
its run, views, last-heard and silence count are kept, and SOURCE_STATE tells the controllers (R51; said where the board has
room). R50: where one of those entries was in use, and where an ANNOUNCE of the position taken first (R45; alone in the frame)
has allocated or evicted an entry, a tally is taken: the agreement tally is that of the Source Table as the frame leaves it.
(That it comes with the departures, once for all of a frame, is the model's choice, log 22.) R116: SLOT_STATE tells the
controllers of the position (said for a frame in which no parcel is completed, where nothing else is afoot and the board has room). -/
def Obligations.DepartureEmptiesPosition : Prop :=
  ∀ (s : State) (segs : List (BitVec 48)) (order : FrameOrder) (p : Pos), s.running = true →
    s.time.due = .nothing → s.occupied p = true →
    (((s.pos p).sIntent.feed (readIntent (segmentOf segs p).intent)).steady.getD (s.pos p).intent) = .idle →
    ∃ t, exec (.frameEnd segs order) s = .next t ∧
      (t.pos p).state = .empty ∧ (t.pos p).intent = .idle ∧ (p.val < 2 → (t.pos p).role = .none) ∧
      (t.pos p).held = none ∧ (t.pos p).ready = 0 ∧ (t.pos p).lag = 0 ∧ (t.pos p).takeCheck = none ∧
      (t.pos p).cursor = none ∧ t.lane p = .initial ∧ t.holdsLead p = false ∧
      (∀ c, t.loader.claimer = some c → ctlPos c ≠ p) ∧
      (∀ i k, (t.source i).key = some k → k.pos = p →
        (t.source i).state ≠ .listening ∧ (t.source i).state ≠ .vouching) ∧
      ((∀ a ∈ requestsOf (s.arrivals segs), a.2.isMute = false) → ∀ i k, (t.source i).key = some k → k.pos = p →
        (t.source i).state = .stale ∨ (t.source i).state = .free) ∧
      (∀ i k, s.arrivals segs = [] → (s.source i).key = some k → k.pos = p →
        (s.source i).state ≠ .free → (s.source i).state ≠ .stale → t.sched.agreement = t.agrees) ∧
      (∀ r i k, requestsOf (s.arrivals segs) = [(p, r)] → (t.source i).key = some k → k.pos = p →
        (s.source i).key ≠ some k → order.requestsFirst = true ∧ t.sched.agreement = t.agrees) ∧
      (s.arrivals segs = [] → ∀ i k, (s.source i).key = some k → k.pos = p → (s.source i).state ≠ .free →
        t.source i = { s.source i with state := .stale } ∧
        ∀ c, (s.source i).state ≠ .stale → s.records = [] → t.occupied (ctlPos c) = true →
          (s.lane (ctlPos c)).board.length ≤ 5 →
          t.told (ctlPos c) (.sourceState i (t.source i) ((t.source i).spent t.time.t))) ∧
      ∀ c, s.still → s.records = [] → s.arrivals segs = [] → t.occupied (ctlPos c) = true →
        (s.lane (ctlPos c)).board.length ≤ 10 → t.told (ctlPos c) (.slotState p (t.pos p).report)

/-! ### The second boundary -/

/-- R2: the T of the second that begins, from T and the pending SET_TIME, which is consumed; the second begins with
frame 0 (R1), which shows it whole (R148). The lead and the trackers stand as they were (R17). (Where nothing is due, the
command ends the second in progress in whatever frame it stands, and the frames passed over sample nothing: the model's
choice, log 3.) -/
def Obligations.BoundarySetsTime : Prop :=
  ∀ s : State, s.running = true → (∀ p, s.time.due ≠ .realign p) →
    ∃ t, exec .secondBoundary s = .next t ∧
      t.time = { s.time with
        t := (match s.time.t, s.time.pendingTime with
          | none, none => none
          | none, some x => some x
          | some n, none => if n < 2 ^ 40 - 1 then some (n + 1) else some n
          | some _, some x => some x)
        pendingTime := none, frame := 0, busClock := 0, due := .nothing } ∧
      t.bus = t.frameContent

/-- R118, R169: at a boundary the pending values of the configuration and the pending settings of the positions take
effect and are cleared. R76, R81: a boundary that finds the provisional-clear marker set clears the provisional flag of D and
the marker; without it, where no CLEAR_SCALE is pending and no group due, the flag stands, and the marker is set exactly where
the boundary's tally finds the agreement at the quorum while D is known and provisional. -/
def Obligations.BoundaryAppliesSettings : Prop :=
  ∀ s : State, s.running = true →
    ∃ t, exec .secondBoundary s = .next t ∧
      (∀ k, t.value k = (s.settings.pending.get k).getD (s.value k) ∧ t.settings.pending.get k = none) ∧
      (s.scale.confirmPending = true → t.scale.provisional = false ∧ t.scale.confirmPending = false) ∧
      (s.scale.confirmPending = false → s.scale.clearPending = false →
        (∀ g ∈ s.scale.groups, ∀ n, s.time.newT = some n → g.affected ≠ n) →
        t.scale.provisional = s.scale.provisional ∧
        t.scale.confirmPending =
          (t.scale.d.isSome && t.scale.provisional && decide (t.value Config.quorum ≤ t.sched.agreement))) ∧
      ∀ p, (t.pos p).pendingSettings = none ∧
        ((t.pos p).mode, (t.pos p).zone) = (s.pos p).pendingSettings.getD ((s.pos p).mode, (s.pos p).zone)

/-- R23 to R26, R31 to R33, R121: after a boundary the labels of the second are those of T, D, INSERTING and the armed
groups as the boundary leaves them; and the offset pairs are those of the boundary to come: of a STEP position the D it
will bring, of a SMEAR position the pair of the open window that contains it. (Where T holds at its maximum, that boundary
has the same T: log 19.) -/
def Obligations.BoundaryLabelsSecond : Prop :=
  ∀ s : State, s.running = true →
    ∃ t, exec .secondBoundary s = .next t ∧
      (∀ n d, t.time.t = some n → t.scale.d = some d → t.scale.inserting = none →
        t.labels.day = (n - d) / 86400 ∧ t.labels.second = (n - d) % 86400 ∧ t.labels.inserting = false) ∧
      (∀ n d e, t.time.t = some n → t.scale.d = some d → t.scale.inserting = some e →
        t.labels.day = e - 1 ∧ t.labels.second = 86400 ∧ t.labels.inserting = true) ∧
      (t.time.t = none ∨ t.scale.d = none →
        t.labels.day = 0 ∧ t.labels.second = 0 ∧ t.labels.inserting = false) ∧
      (t.armedGroups = [] →
        t.labels.countdown = 0 ∧ t.labels.tag = 0 ∧ t.labels.kinds = ⟨false, false, false, false⟩ ∧
        t.labels.rehearsal = false) ∧
      (∀ n, t.time.t = some n → ∀ g ∈ t.armedGroups, (∀ x ∈ t.armedGroups, x ≠ g → g.affected < x.affected) →
        t.labels.countdown = min 65535 (g.affected - n) ∧ t.labels.tag = g.tag ∧
        t.labels.rehearsal = g.rehearsal ∧
        (g.rehearsal = true → t.labels.kinds = ⟨false, false, false, false⟩) ∧
        (g.rehearsal = false →
          (t.labels.kinds.insert = true ↔ ∃ r ∈ t.members g.tag, ∃ e, r.change = .leap .insert e) ∧
          (t.labels.kinds.delete = true ↔ ∃ r ∈ t.members g.tag, ∃ e, r.change = .leap .delete e) ∧
          (t.labels.kinds.baseline = true ↔ ∃ r ∈ t.members g.tag, ∃ x, r.change = .baseline x) ∧
          (t.labels.kinds.shift = true ↔ ∃ r ∈ t.members g.tag, ∃ z o i, r.change = .shift z o i))) ∧
      (t.time.t = none → t.scale.inserting = none → ∀ p, t.labels.pairs.get p = ⟨t.scale.d.getD 0, 0⟩) ∧
      ∀ n, t.time.t = some n →
        let m := if n < 2 ^ 40 - 1 then n + 1 else n
        let due := t.records.filter fun r => r.state == .armed && r.affected == some (n + 1) &&
          (r.change.isBaseline || r.change.kindNumber == 1)
        let open_ := t.records.filter fun r => r.leapBusy && r.window.any fun w => decide (w.start ≤ m ∧ m < w.stop)
        (∀ p, (t.pos p).mode = .smear → t.scale.d ≠ none → ∀ r w, open_ = [r] → r.window = some w →
          let x := min (m - w.start) w.length * 10 ^ 9 / w.length
          t.labels.pairs.get p =
            if r.change.kindNumber = 0 then (if x < 10 ^ 9 then ⟨w.dOld, x⟩ else ⟨w.dOld + 1, 0⟩)
            else if x = 0 then ⟨w.dOld, 0⟩ else ⟨w.dOld - 1, 10 ^ 9 - x⟩) ∧
        ∀ p, (t.pos p).mode = .step ∨ open_ = [] →
          (due = [] → t.labels.pairs.get p =
            ⟨(if t.scale.inserting = none then t.scale.d else t.scale.d.map (· + 1)).getD 0, 0⟩) ∧
          ∀ r, due = [r] → t.scale.inserting = none →
            (∀ x, r.change = .baseline x → t.labels.pairs.get p = ⟨x, 0⟩) ∧
            (∀ d, r.change.kindNumber = 1 → t.scale.d = some (d + 1) → t.labels.pairs.get p = ⟨d, 0⟩) ∧
            (r.change.kindNumber = 1 → t.scale.d = some 0 → t.labels.pairs.get p = ⟨0, 0⟩)

/-- R52, R78, R84 (step 1), R96: a boundary that carries out CLEAR_SCALE: D unknown, G raised by one with one CLEAR
entry, no record, no group, no source, no rehearsal, and no pending ARMED notice; the zone offsets stay. APPLIED is queued to
every position that is not EMPTY, both generations the CLEAR generation, tag and counts 0; no other APPLIED is left there. R51:
SOURCE_STATE shows the controllers each entry that was not FREE as FREE, with the values of R34. (Said where the boards have
room, in which case the order of these notices, log 53, is not seen.) -/
def Obligations.BoundaryClearsScale : Prop :=
  ∀ s : State, s.running = true → (∀ p, s.time.due ≠ .realign p) → s.scale.clearPending = true →
    ∃ t, exec .secondBoundary s = .next t ∧
      t.scale =
        { d := none, provisional := false, g := s.scale.g + 1, inserting := none,
          history := [{ gen := s.scale.g + 1, kind := .clear, id := none, instant := none, affected := none,
                        dAfter := none, shift := none, applied := t.time.t }],
          groups := [], clearPending := false, confirmPending := false } ∧
      t.records = [] ∧ t.sched.listed = [] ∧ t.sched.refused = none ∧ t.sched.cursor = s.sched.cursor ∧
      (∀ i, t.sched.marks.get i = false) ∧ (∀ i, (t.source i).state = .free) ∧ t.rehearsal.phase = .none ∧
      t.zones = s.zones ∧ (∀ q, ∀ e ∈ (t.lane q).board, e.notice.isArmed = false) ∧
      (∀ q, s.occupied q = true →
        (∀ e ∈ (t.lane q).board, e.notice.code = 0x52 → e.notice = .applied (s.scale.g + 1) (s.scale.g + 1) 0 0 0 true) ∧
        ((s.lane q).board.length ≤ 10 →
          ∃ e ∈ (t.lane q).board, e.notice = .applied (s.scale.g + 1) (s.scale.g + 1) 0 0 0 true)) ∧
      ∀ i, (s.source i).state ≠ .free →
        t.source i = { key := none, state := .free, run := 0, candidate := none, vouched := none, lastHeard := none,
                       allocated := none, silence := 0 } ∧
        ∀ c, s.occupied (ctlPos c) = true → (s.lane (ctlPos c)).board.length ≤ 10 →
          ∃ e ∈ (t.lane (ctlPos c)).board, e.notice = .sourceState i (t.source i) false

/-- R80, R92: the boundary after the one that applied an INSERT clears INSERTING and raises D by one (D as it stands: log
54); where no group is due there, G and the history stay as they are. R60: every entry whose effective view reads the old D
there is marked as trailing; of the others, an entry whose view became spent, or not spent again, loses its mark (R47). R19: the
leap records that are neither ARMED nor SETTLING have the affected seconds of the new D (said of records with the ids of R54). -/
def Obligations.BoundaryEndsInsertedSecond : Prop :=
  ∀ (s : State) (d e : Nat), s.running = true → (∀ p, s.time.due ≠ .realign p) → s.scale.clearPending = false →
    s.scale.inserting = some e → s.scale.d = some d →
    (∀ g ∈ s.scale.groups, ∀ n, s.time.newT = some n → g.affected ≠ n) →
    ∃ t, exec .secondBoundary s = .next t ∧
      t.scale.d = some (d + 1) ∧ t.scale.inserting = none ∧ t.scale.g = s.scale.g ∧
      t.scale.history = s.scale.history ∧ MarksFollow (some d) s t ∧ (s.recordsFit → t.leapsReckoned)

/-- R22, R80, R82, R83, R91, R129: what the boundary of application does to D, the provisional flag, G, INSERTING, the
history and the zone offsets: for a group with one record, and for a group of any number (at most one of the scale class, R66,
and zones once each, R55), each of which is applied but for a leap that would carry D out of range. Such a leap is withdrawn
RANGE: it has no record, its change is listed where sources still vouch for it, WITHDRAWN is queued, and where the group has no
other record G stands and no APPLIED is queued. R60: where D leaves a known value every entry that still reads it is marked as
trailing, and where D becomes known none is. R19: the leap records that are neither ARMED nor SETTLING have the affected seconds
of the new D. R88, R93, R94: the group is gone and its tag is free for a group that arms in the same boundary; an applied leap
is SETTLING with its tag, its window and the group's roll call, and APPLIED with the generations covered, the tag and the counts
is queued (notices said for a device where nothing else is afoot and boards have room). R94: a SETTLING leap stands, but for its
tallies, until the first boundary whose T is at least a + 1 and at least the end of its window, which takes it out. (Where the boundary comes with nothing due, its roll call is
taken now, in whatever frame the device stands: the model's choice, log 3. That a leap is reckoned from D as it stands, not
from the D_old stored when it armed, is the model's choice, log 54.) -/
def Obligations.BoundaryAppliesChange : Prop :=
  (∀ (s : State) (n : Nat) (g : Group) (r : Record), s.running = true → (∀ p, s.time.due ≠ .realign p) →
    s.time.t = some n → n < 2 ^ 40 - 1 → s.time.pendingTime = none → s.scale.clearPending = false →
    s.scale.inserting = none → (s.scale.groups.find? fun x => x.affected == n + 1) = some g →
    s.members g.tag = [r] →
    ∃ t, exec .secondBoundary s = .next t ∧
      MarksFollow (if t.scale.d = s.scale.d then none else s.scale.d) s t ∧
      (t.scale.d ≠ s.scale.d → s.recordsFit → t.leapsReckoned) ∧
      (r.change.isBaseline = false → t.scale.provisional = (s.scale.provisional && !s.scale.confirmPending)) ∧
      let entry (kind : HistoryKind) (after : Option Nat) (zone : Option (Nat × Int)) : HistoryEntry :=
        { gen := s.scale.g + 1, kind := kind, id := some r.id, instant := r.affected.map (instantOf r.change),
          affected := r.affected, dAfter := after, shift := zone, applied := some (n + 1) }
      match r.change with
      | .leap .insert e =>
        (∀ d, s.scale.d = some d → d < 255 →
          t.scale.d = some d ∧ t.scale.inserting = some e ∧ t.scale.g = s.scale.g + 1 ∧
          t.scale.history.getLast? = some (entry .insert (some (d + 1)) none)) ∧
        (∀ d, s.scale.d = some d → 255 ≤ d →
          t.scale.d = some d ∧ t.scale.inserting = none ∧ t.scale.g = s.scale.g ∧
          t.scale.history = s.scale.history)
      | .leap .delete _ =>
        (∀ d, s.scale.d = some (d + 1) →
          t.scale.d = some d ∧ t.scale.inserting = none ∧ t.scale.g = s.scale.g + 1 ∧
          t.scale.history.getLast? = some (entry .delete (some d) none)) ∧
        (s.scale.d = some 0 →
          t.scale.d = some 0 ∧ t.scale.g = s.scale.g ∧ t.scale.history = s.scale.history)
      | .baseline x =>
        t.scale.d = some x ∧ t.scale.provisional = false ∧ t.scale.inserting = none ∧
        t.scale.g = s.scale.g + 1 ∧ t.scale.history.getLast? = some (entry .baseline (some x) none)
      | .shift z o _ =>
        t.scale.d = s.scale.d ∧ t.scale.g = s.scale.g + 1 ∧
        t.scale.history.getLast? = some (entry .shift s.scale.d (some (z, o))) ∧
        ∀ y : Fin 16, t.zones.get y = if y.val = z then o else s.zones.get y) ∧
  (∀ (s : State) (n : Nat) (g : Group), s.running = true → (∀ p, s.time.due ≠ .realign p) → s.recordsFit →
    s.recordsOrdered → s.time.t = some n → n < 2 ^ 40 - 1 → s.time.pendingTime = none →
    s.scale.clearPending = false → s.scale.inserting = none →
    (s.scale.groups.filter fun x => x.affected == n + 1) = [g] →
    let rs := s.members g.tag
    let done := rs.filter s.applies
    let roll := if s.time.due = .second ∨ g.roll.isSome = true then g.roll
      else some (.build 12 fun p => (s.pos p).rollMark g.tag)
    rs ≠ [] → (rs.filter Record.isScale).length ≤ 1 →
    ∃ t, exec .secondBoundary s = .next t ∧
      t.scale.g = s.scale.g + BitVec.ofNat 16 done.length ∧
      t.scale.history = lastN 8 (s.scale.history ++ historyOf (n + 1) s.scale.g s.scale.d done) ∧
      (∀ r ∈ rs, ∀ z o i, r.change = .shift z o i → ∀ h : z < 16, t.zones.get ⟨z, h⟩ = o) ∧
      (∀ y : Fin 16, (∀ r ∈ rs, ∀ o i, r.change ≠ .shift y.val o i) → t.zones.get y = s.zones.get y) ∧
      ((∀ r ∈ done, r.isScale = false) → t.scale.d = s.scale.d ∧ t.scale.inserting = none) ∧
      (∀ r ∈ done, (∀ e, r.change = .leap .insert e → t.scale.d = s.scale.d ∧ t.scale.inserting = some e) ∧
        (∀ e, r.change = .leap .delete e → t.scale.d = s.scale.d.map (· - 1) ∧ t.scale.inserting = none) ∧
        ∀ x, r.change = .baseline x →
          t.scale.d = some x ∧ t.scale.inserting = none ∧ t.scale.provisional = false) ∧
      ((∀ r ∈ rs, r.change.isBaseline = false) →
        t.scale.provisional = (s.scale.provisional && !s.scale.confirmPending)) ∧
      MarksFollow (if t.scale.d = s.scale.d then none else s.scale.d) s t ∧
      (t.scale.d ≠ s.scale.d → t.leapsReckoned) ∧
      (∀ r ∈ rs, s.applies r = false → r.origin = .sources →
        (∀ x ∈ t.records, x.change.sameKey r.change = false) ∧
        (0 < t.vouches r.change → ⟨r.change, .range, some (n + 1)⟩ ∈ t.sched.listed)) ∧
      (done = [] → ∀ q, ∀ e ∈ (t.lane q).board, e.notice.code = 0x52 → e ∈ (s.lane q).board) ∧
      (∀ x ∈ t.scale.groups, x.tag = g.tag → n + 1 < x.affected) ∧
      (∀ x ∈ t.records, x.state = .armed → x.tag = some g.tag → ∀ a, x.affected = some a → n + 1 < a) ∧
      (∀ r ∈ done, r.change.isLeap = true → ∃ x ∈ t.records,
        { x with vouch := r.vouch, oppose := r.oppose } =
          { r with state := .settling, roll := roll }) ∧
      ∀ p, s.still → s.records = rs → s.rehearsal.phase = .none → s.time.due = .second →
        s.occupied p = true → (s.lane p).board.length ≤ 10 →
        (done ≠ [] → (∀ e ∈ (s.lane p).board, e.notice.code ≠ 0x52) →
          ∃ e ∈ (t.lane p).board, e.notice = .applied (s.scale.g + 1) t.scale.g g.tag
            (rollCounts g.roll).1 (rollCounts g.roll).2 false) ∧
        ∀ r ∈ rs, s.applies r = false → ∃ e ∈ (t.lane p).board, e.notice = .withdrawn r.id r.change .range) ∧
  ∀ (s : State) (r : Record) (a : Nat), s.running = true → s.scale.clearPending = false → s.recordsFit →
    r ∈ s.records → r.state = .settling → r.change.isLeap = true → r.affected = some a →
    ∃ t, exec .secondBoundary s = .next t ∧ ∀ n, t.time.t = some n →
      let ends := max (a + 1) ((r.window.map Window.stop).getD 0)
      (n < ends → ∃ x ∈ t.records, { x with vouch := r.vouch, oppose := r.oppose } = r) ∧
      (ends ≤ n → ∀ x ∈ t.records, x.id = r.id → x.state ≠ .settling ∧ x.created = some n)

/-- R85, R86, R89: after a boundary with T known no record in HEARD, CONTESTED or QUALIFIED has an affected second at
or before T; a QUALIFIED leap or SHIFT within the arming lead, with D known and not provisional, is left only for want of a
tag, and a QUALIFIED BASELINE below 2^40 − 1 for that, or beside a leap ARMED or SETTLING or an ARMED BASELINE (said of
records with the ids and quotas of R54, R55, as are the tags of new groups and what a record carries). R86, R87: what a record that the boundary armed carries: its affected second, the tag of the group of that second (a new group takes the
lowest free tag, new groups in ascending order), the late flag, the restored flag cleared, the window of R29; and its ARMED
notice to every position (said for a lone record where nothing else is afoot and the board has room). R17, R97: a re-time
applies no group; ARMED records at or before X are missed, with their MISSED notice (said in the same way), the others kept;
the rehearsal's affected second is moved with T, or the rehearsal cancelled beyond 2^40 − 1. -/
def Obligations.BoundaryLeavesNothingDue : Prop :=
  (∀ s : State, s.running = true →
    ∃ t, exec .secondBoundary s = .next t ∧
      ∀ n, t.time.t = some n →
        (∀ r ∈ t.records, ∀ a, r.affected = some a →
          (r.state = .heard ∨ r.state = .contested ∨ r.state = .qualified → n < a) ∧
          (r.state = .qualified → r.change.isBaseline = false → a ≤ n + t.value Config.armingLead →
            t.scale.d.isSome = true → t.scale.provisional = false → t.freeTag = none)) ∧
        (s.recordsFit → ∀ r ∈ t.records, r.state = .qualified → r.change.isBaseline = true → n < 2 ^ 40 - 1 →
          t.freeTag = none ∨
            ∃ x ∈ t.records, x.leapBusy = true ∨ x.change.isBaseline = true ∧ x.state = .armed) ∧
        (s.recordsFit → ∀ g ∈ t.scale.groups, ∀ h ∈ t.scale.groups,
          (∀ x ∈ s.scale.groups, x.affected ≠ g.affected) → (∀ x ∈ s.scale.groups, x.affected ≠ h.affected) → g.affected < h.affected → g.tag < h.tag) ∧
        ∀ r ∈ t.records, r.state = .armed → s.recordsFit → s.baselinesNext →
          (∀ x ∈ s.records, x.id = r.id → x.state ≠ .armed) →
          ∃ a k, r.affected = some a ∧ r.tag = some k ∧ n < a ∧
            (if r.change.isBaseline then a = n + 1 else a ≤ n + t.value Config.armingLead) ∧
            (∃ g ∈ t.scale.groups, g.affected = a ∧ g.tag = k) ∧
            ((∃ g ∈ s.scale.groups, g.affected = a ∧ g.tag = k) ∨
              1 ≤ k ∧ ∀ j, 1 ≤ j → j < k → ∃ g ∈ t.scale.groups, g.tag = j) ∧
            (∀ g ∈ s.scale.groups, g.affected = a → (∃ x ∈ t.scale.groups, x.affected = a ∧ x.tag = g.tag) →
              k = g.tag) ∧
            r.late = (!r.change.isBaseline && decide (a < n + t.value Config.armingLead)) ∧ r.restored = false ∧
            (∀ l e d, r.change = .leap l e → t.scale.d = some d →
              r.window = some (t.windowOf l (if l = .insert then a + 1 else a) a n d)) ∧
            (r.change.isLeap = false → r.window = none) ∧
            ∀ x, s.still → s.records = [x] → s.scale.groups = [] → s.rehearsal.phase = .none → ∀ p,
              s.occupied p = true → (s.lane p).board.length ≤ 10 →
              ∃ e ∈ (t.lane p).board, e.notice = .armed
                { id := r.id, change := some r.change, late := r.late
                  newValue := match r.change with
                    | .leap _ _ => (((r.window.map Window.dNew).getD 0 : Nat) : Int)
                    | .baseline v => (v : Int)
                    | .shift _ o _ => o
                  instant := match r.change with
                    | .leap .insert _ => a + 1
                    | _ => a
                  affected := a, tag := k
                  start := (r.window.map Window.start).getD 0, stop := (r.window.map Window.stop).getD 0 }) ∧
  ∀ (s : State) (n x : Nat), s.running = true → s.time.t = some n → s.time.pendingTime = some x → x ≠ n + 1 →
    s.scale.clearPending = false →
    ∃ t, exec .secondBoundary s = .next t ∧
      t.time.t = some x ∧ t.scale.g = s.scale.g ∧ t.scale.history = s.scale.history ∧ t.zones = s.zones ∧
      (∀ r ∈ t.records, r.state = .armed → ∀ a, r.affected = some a → x < a) ∧
      (s.recordsFit → ∀ r ∈ s.records, r.state = .armed → ∀ a, r.affected = some a → x < a →
        ∃ y ∈ t.records, { y with vouch := r.vouch, oppose := r.oppose } = r) ∧
      (∀ r a, s.still → s.records = [r] → s.rehearsal.phase = .none → r.state = .armed → r.affected = some a → a ≤ x →
        ∀ p, s.occupied p = true → (s.lane p).board.length ≤ 10 →
        ∃ e ∈ (t.lane p).board, e.notice = .missed r.id r.change true a) ∧
      ∀ a, s.rehearsal.phase = .armed ∨ s.rehearsal.phase = .called → s.rehearsal.affected = some a → s.still →
        s.records = [] →
        (a + x - (n + 1) ≤ 2 ^ 40 - 1 →
          t.rehearsal.phase ≠ .none ∧ t.rehearsal.affected = some (a + x - (n + 1))) ∧
        (2 ^ 40 - 1 < a + x - (n + 1) → t.rehearsal.phase = .none ∧ t.rehearsal.affected = none ∧
          ∃ w, t.rehearsal.result = some w ∧ w.completed = false)

/-- R142 to R145: the boundary after a FINISH, that of a realignment included, gives the verdict: the store is replaced or
stands, the claimer's response is no longer withheld, and the Loader returns to IDLE (with length and serial 0 and the stopped
timer at 0: the model's choices, logs 40 and 52). At an install every RULESET zone record that is not ARMED leaves the schedule,
with WITHDRAWN REPLACED to the controllers (said where no source counts and the board has room): each RULESET zone record
after the boundary is one that was ARMED, or one drawn from the new store. ARMED RULESET records and OPERATOR zone records
are left in place, but those that the boundary applies or misses. What verification gives on any staged image, good or bad,
check by check: a wrong check value CHECK_FAILED, a fault in the header BAD_CONTENT with index 255, else BAD_CONTENT with the
index of the first transition that fails, else the rule set (Judges and checkValue of Safety.lean, from R143, R144, R189). -/
def Obligations.BoundaryVerifiesLoad : Prop :=
  (∀ l : Loader, l.buffer.length = l.length → 12 ≤ l.length → Judges l (verdict l)) ∧
  (∀ bytes : List Byte, crc32 bytes = checkValue bytes) ∧
  checkValue [0x31, 0x32, 0x33, 0x34, 0x35, 0x36, 0x37, 0x38, 0x39] = 0xCBF43926 ∧
  ∀ (s : State) (c : Ctl) (owed : Response), s.running = true → s.time.due ≠ .nothing →
    s.loader.state = .verifying → s.loader.claimer = some c → (s.lane (ctlPos c)).owed = some owed →
    (∀ p x, s.time.due = .realign p → (s.lane (ctlPos c)).sending = some x → x.what ≠ .response) →
    ∀ command : Instr, command = .secondBoundary ∨ command = .realignment ∧ s.time.due ≠ .second →
    ∃ t, exec command s = .next t ∧ t.loader = .initial ∧
      (∀ x, verdict s.loader = .ok x →
        t.rules = x ∧
        (t.lane (ctlPos c)).owed = some { owed with
          code := .accepted, withheld := false
          content := beBytes 4 x.serial.toNat ++ oneByte x.transitions.length } ∧
        (s.recordsFit → ∀ y ∈ t.records, y.origin = .ruleset → y.change.isShift = true →
          (∃ r ∈ s.records, r.state = .armed ∧ r.id = y.id ∧ r.change = y.change ∧ r.origin = .ruleset ∧
            r.ref = y.ref) ∨
          y.created = t.time.t ∧ ∃ z ∈ x.transitions,
            y.change = .shift z.zone z.offset z.instant ∧ y.ref = some (z.zone, z.instant)) ∧
        (s.recordsFit → s.armedInGroups → s.tagsDistinct → s.scale.clearPending = false →
          ∀ r ∈ s.records, r.change.isShift = true → r.origin = .operator ∨ r.origin = .ruleset ∧ r.state = .armed →
          ∀ a, r.affected = some a → (∀ n, s.time.newT = some n → n < a) →
          ∃ y ∈ t.records, y.id = r.id ∧ y.change = r.change ∧ y.origin = r.origin ∧ y.ref = r.ref ∧
            (r.state = .armed → y.state = .armed ∧ y.tag = r.tag)) ∧
        ∀ r ∈ s.records, s.recordsFit → r.origin = .ruleset → r.change.isShift = true → r.state = .qualified →
          s.scale.clearPending = false → (∀ i, (s.source i).state ≠ .listening ∧ (s.source i).state ≠ .vouching) →
          ∀ d, s.occupied (ctlPos d) = true → s.records.length + (s.lane (ctlPos d)).board.length ≤ 10 →
          t.told (ctlPos d) (.withdrawn r.id r.change .replaced)) ∧
      ∀ code i, verdict s.loader = .error (code, i) →
        t.rules = s.rules ∧
        (t.lane (ctlPos c)).owed = some { owed with code := code, content := oneByte i, withheld := false }

/-- R134, R135: the draw pass gives a zone without a record the transition with the lowest instant of at least b + 2
that is not skipped, as a record of origin RULESET (QUALIFIED, and ARMED if the arming pass took it at once). -/
def Obligations.BoundaryDraws : Prop :=
  ∀ (s : State) (z n : Nat) (x : Transition), s.running = true → (∀ p, s.time.due ≠ .realign p) →
    s.recordsFit → s.scale.clearPending = false → s.loader.state ≠ .verifying → s.time.newT = some n →
    1 ≤ z → z ≤ 15 → s.zoneRecord z = none → x ∈ s.rules.transitions → x.zone = z → x.skipped = false →
    n + 2 ≤ x.instant →
    (∀ y ∈ s.rules.transitions, y.zone = z → y.skipped = false → n + 2 ≤ y.instant →
      x.instant < y.instant ∨ y = x) →
    ∃ t, exec .secondBoundary s = .next t ∧
      ∃ r ∈ t.records, r.change = .shift z x.offset x.instant ∧ r.affected = some x.instant ∧
        r.origin = .ruleset ∧ r.ref = some (z, x.instant) ∧ (r.state = .qualified ∨ r.state = .armed)

/-! ### The quiet frames and the realignment -/

/-- R90, R107, R123, R157, R163: frame 980 begins: the roll call of a group whose affected second comes next, which makes
LAGGING the IN_STEP positions that are not ready, or that of the rehearsal, and the reset of every lane that is not EMPTY;
the frame shows the state as it stood before them (R148). R116: each position made LAGGING is told to the controllers by
SLOT_STATE (said where the board has room, where the order of several, log 64, is not seen). R114: an offer lost in transfer
leaves no cursor. (That the command takes the device to frame 980 from any frame
before it, with nothing sampled between, is the model's choice, log 3.) -/
def Obligations.QuietFramesCallAndReset : Prop :=
  ∀ s : State, s.running = true → s.time.due = .nothing → s.time.frame ≤ 980 →
    ∃ t, exec .quietFrames s = .next t ∧ t.records = s.records ∧
      t.time = { s.time with frame := 980, busClock := if s.time.frame < 980 then 0 else s.time.busClock } ∧
      (s.time.frame < 980 → t.bus = { s with time := { s.time with frame := 980 } }.frameContent) ∧
      (∀ n k, s.time.t = some n → s.scale.groups = [] → s.rehearsal.phase = .armed → s.rehearsal.tag = some k →
        s.rehearsal.affected = some (n + 1) →
        t.rehearsal = { s.rehearsal with
          phase := .called
          detail := .build 12 fun p => { s.rehearsal.detail.get p with roll := some ((s.pos p).rollMark k) } } ∧
        ∀ p, (t.pos p).state = (s.pos p).state) ∧
      (∀ n g, s.time.t = some n → (s.scale.groups.filter fun x => x.affected == n + 1 && x.roll.isNone) = [g] →
        t.scale.groups = s.scale.groups.map (fun x =>
          if x.tag = g.tag then { x with roll := some (.build 12 fun p => (s.pos p).rollMark g.tag) } else x) ∧
        ∀ p, (t.pos p).state =
            (if (s.pos p).state = .inStep ∧ (s.pos p).ready ≠ g.tag then .lagging else (s.pos p).state) ∧
          ((s.pos p).state = .inStep → (s.pos p).ready ≠ g.tag → (t.pos p).lag = 0 ∧ (t.pos p).takeCheck = none ∧
            ∀ c, s.occupied (ctlPos c) = true → (s.lane (ctlPos c)).board.length ≤ 10 →
              ∃ e ∈ (t.lane (ctlPos c)).board, e.notice = .slotState p (t.pos p).report)) ∧
      ∀ p, s.occupied p = true →
        let lost := match (s.lane p).sending with
          | some x => decide (x.what = .response)
          | none => false
        (t.lane p).take = false ∧ (t.lane p).offer = false ∧ (t.lane p).buffer = [] ∧
        (t.lane p).sending = none ∧ (t.lane p).owed = (if lost then none else (s.lane p).owed) ∧
        (t.lane p).inbound = (if (s.lane p).inbound = .held ∧ lost = false then .held else .opened) ∧
        ∀ x, (s.lane p).sending = some x → x.what = .offer → (t.pos p).cursor = none

/-- R9, R10: a realignment at p begins a new second: T is set as at every boundary, frame 0 begins, and the trackers'
positions become (position − p) mod 1000; the run, the miss count and the interval count are kept. Every lane that is not
EMPTY is reset (R163). A roll call still to come in the cut second is taken before the boundary: the leap that the boundary
applies settles with it, and the rehearsal that it completes ends with its counts (its span, arming boundary and requester
stay readable: the model's reading, log 33). TIME_SLIP is queued to the controllers (said for a device where nothing else is
afoot and the board has room, so that its place among the notices, log 56, is not seen). Where none is due, the next counted mark of the
lead holder's ALIGNED tracker makes the realignment (the model's choice, log 3). -/
def Obligations.RealignmentRenumbers : Prop :=
  ∀ (s : State) (p : Nat), s.running = true →
    let moved (k : Tracker) : Tracker := { k with candidate := k.candidate.map fun x => (x + 1000 - p) % 1000 }
    (s.time.due = .realign p →
      ∃ t, exec .realignment s = .next t ∧
        t.time = { s.time with
          t := s.time.newT, pendingTime := none, frame := 0, busClock := 0, due := .nothing
          trackerA := moved s.time.trackerA, trackerB := moved s.time.trackerB } ∧
        (∀ q, s.occupied q = true →
          let lost := match (s.lane q).sending with
            | some x => decide (x.what = .response)
            | none => false
          (t.lane q).take = false ∧ (t.lane q).offer = false ∧ (t.lane q).buffer = [] ∧ (t.lane q).sending = none ∧
          (t.lane q).inbound = (if (s.lane q).inbound = .held ∧ lost = false then .held else .opened) ∧
          (s.loader.state ≠ .verifying → (t.lane q).owed = if lost then none else (s.lane q).owed)) ∧
        (∀ n g r d k e, s.recordsFit → s.time.t = some n → n < 2 ^ 40 - 1 → s.time.pendingTime = none →
          s.scale.clearPending = false → s.scale.inserting = none →
          (s.scale.groups.filter fun x => x.affected == n + 1) = [g] → g.roll = none → s.members g.tag = [r] →
          r.change = .leap k e → s.scale.d = some d → leapInRange k d = true →
          ∃ x ∈ t.records, x.id = r.id ∧ x.change = r.change ∧ x.state = .settling ∧
            x.roll = some (.build 12 fun q => (s.pos q).rollMark g.tag)) ∧
        (∀ n k, s.time.t = some n → n < 2 ^ 40 - 1 → s.time.pendingTime = none → s.scale.clearPending = false →
          s.scale.groups = [] → s.rehearsal.phase = .armed → s.rehearsal.tag = some k →
          s.rehearsal.affected = some (n + 1) →
          t.rehearsal = { s.rehearsal with
            phase := .none, tag := none, affected := none
            result := some ⟨true, s.found k .ready, s.found k .notReady⟩
            detail := .build 12 fun q => { s.rehearsal.detail.get q with roll := some ((s.pos q).rollMark k) } }) ∧
        ∀ c, s.still → s.records = [] → s.scale.groups = [] → s.rehearsal.phase = .none →
          s.occupied (ctlPos c) = true → (s.lane (ctlPos c)).board.length ≤ 10 →
          ∃ x ∈ (t.lane (ctlPos c)).board, x.notice = .timeSlip p) ∧
    (∀ c, s.time.due = .nothing → s.time.holder = some c → (s.time.tracker c).mode = .aligned →
      (s.time.tracker c).candidate = some p → p ≠ 0 → s.time.frame < p →
      ∃ t, exec .realignment s = .next t ∧
        t.time.t = s.time.newT ∧ t.time.frame = 0 ∧ t.time.due = .nothing ∧ t.time.holder = some c ∧
        t.time.tracker c = { s.time.tracker c with candidate := some 0, misses := 0, interval := 0 } ∧
        t.time.tracker (otherCtl c) = moved (s.time.tracker (otherCtl c)))

/-! ### Timers of their own (each the last tick of its timer, log 4) -/

/-- R7, R42, R108, R110: the timers that run out as commands of their own: the interval count of an ALIGNED tracker (a
miss; the third enters FLYWHEEL), the silence count of an entry (STALE, its key and views kept; R50, R51: the Change Schedule
takes a tally of the state with it, and SOURCE_STATE tells the controllers), a take check (LAGGING
where an IN_STEP position does not hold G mod 256) and a lag timer (DROPPED). What a second boundary does to the last
three: R42, R43: every silence count is raised, and an entry at the limit in effect from that boundary is STALE; R47, R51:
a view that becomes spent, or not spent again, queues SOURCE_STATE (said for a device where nothing else is afoot and the
board has room, where the order of several, log 66, and the place of that of a STALE before its tally's notices, log 65, are not
seen); R105, R108 to R110: the take checks, set afresh where G changed, and the lag timers, with the states they
bring. R116: SLOT_STATE tells the controllers of each position that a timer or a boundary moves (said where the board has
room, and of a boundary where nothing else is afoot). -/
def Obligations.TimersRunOut : Prop :=
  (∀ s : State, s.running = true →
    (∀ c, s.settled → (s.time.tracker c).mode = .aligned → 1000 ≤ (s.time.tracker c).interval →
      ∃ t, exec (.markMiss c) s = .next t ∧ Unchanged [.time, .moment] s t ∧
        t.time = s.time.setTracker c
          (if (s.time.tracker c).misses + 1 < 3
            then { s.time.tracker c with misses := (s.time.tracker c).misses + 1, interval := 1 }
            else { s.time.tracker c with mode := .flywheel, misses := 3, run := 0, interval := 1001 })) ∧
    (∀ i, (s.source i).state = .listening ∨ (s.source i).state = .vouching →
      s.value Config.stalenessLimit ≤ min 65535 ((s.source i).silence + 1) →
      ∃ t, exec (.stale i) s = .next t ∧
        t.source i = { s.source i with state := .stale, silence := min 65535 ((s.source i).silence + 1) } ∧
        (∀ j, j ≠ i → t.source j = s.source j) ∧
        Unchanged [.sources, .sched, .scale, .lanes, .store, .moment] s t ∧ Reheard i s.nextMoment t) ∧
    (∀ p k, (s.pos p).takeCheck = some k → k ≤ 1 →
      ∃ t, exec (.takeCheckDue p) s = .next t ∧ Unchanged [.roster, .lanes, .store, .moment] s t ∧
        (∀ q, q ≠ p → t.pos q = s.pos q) ∧
        (t.pos p =
          if (s.pos p).state = .inStep ∧ (s.pos p).held ≠ some s.g8 then
            { s.pos p with state := .lagging, lag := 0, takeCheck := none, cursor := none }
          else { s.pos p with takeCheck := none }) ∧
        ∀ d, (t.pos p).state ≠ (s.pos p).state → s.occupied (ctlPos d) = true →
          (s.lane (ctlPos d)).board.length ≤ 10 →
          ∃ e ∈ (t.lane (ctlPos d)).board, e.notice = .slotState p (t.pos p).report) ∧
    ∀ p, (s.pos p).state = .joining ∨ (s.pos p).state = .lagging → (s.pos p).intent = .following →
      s.value Config.lagLimit ≤ min 255 ((s.pos p).lag + 1) →
      ∃ t, exec (.lagLimitReached p) s = .next t ∧ Unchanged [.roster, .lanes, .store, .moment] s t ∧
        (∀ q, q ≠ p → t.pos q = s.pos q) ∧
        t.pos p = { s.pos p with state := .dropped, lag := min 255 ((s.pos p).lag + 1), cursor := none } ∧
        ∀ d, s.occupied (ctlPos d) = true → (s.lane (ctlPos d)).board.length ≤ 10 →
          ∃ e ∈ (t.lane (ctlPos d)).board, e.notice = .slotState p (t.pos p).report) ∧
  ∀ s : State, s.running = true → s.time.due = .second →
    ∃ t, exec .secondBoundary s = .next t ∧
      (∀ i, s.scale.clearPending = false → t.value Config.persistence = s.value Config.persistence →
        let e := s.source i
        let n := min 65535 (e.silence + 1)
        t.source i =
          if e.state = .free then e
          else if (e.state = .listening ∨ e.state = .vouching) ∧ t.value Config.stalenessLimit ≤ n then
            { e with state := .stale, silence := n }
          else { e with silence := n }) ∧
      (∀ i c, s.still → s.records = [] → s.scale.groups = [] → s.rehearsal.phase = .none →
        (s.source i).state ≠ .free → (s.source i).spent s.time.t ≠ (s.source i).spent t.time.t →
        s.occupied (ctlPos c) = true → (s.lane (ctlPos c)).board.length ≤ 10 →
        ∃ x ∈ (t.lane (ctlPos c)).board, x.notice = .sourceState i (t.source i) ((t.source i).spent t.time.t)) ∧
      (∀ p, let x := s.pos p
        let y := t.pos p
        let joins := x.held = some t.g8 ∧ (x.state = .lagging ∨ x.state = .joining ∧ x.intent = .following)
        let st := if joins then PosState.inStep else x.state
        let due := t.scale.g = s.scale.g ∧ ∃ k ∈ x.takeCheck, k ≤ 1
        if x.state = .empty then y.state = .empty
        else
          y.takeCheck = (if t.scale.g ≠ s.scale.g then some (t.value Config.takeLimit)
            else x.takeCheck.bind fun k => if k ≤ 1 then none else some (k - 1)) ∧
          if due ∧ st = .inStep ∧ x.held ≠ some t.g8 then y.state = .lagging ∧ y.lag = 0
          else if (st = .joining ∨ st = .lagging) ∧ x.intent = .following then
            y.lag = min 255 (x.lag + 1) ∧ y.state = if t.value Config.lagLimit ≤ min 255 (x.lag + 1) then .dropped else st
          else y.state = st ∧ y.lag = (if joins then 0 else x.lag)) ∧
      ∀ p c, (t.pos p).state ≠ (s.pos p).state → s.still → s.records = [] → s.scale.groups = [] →
        s.rehearsal.phase = .none → s.occupied (ctlPos c) = true → (s.lane (ctlPos c)).board.length ≤ 10 →
        ∃ e ∈ (t.lane (ctlPos c)).board, e.notice = .slotState p (t.pos p).report

/-- R137, R139: a load whose timer reaches 0 has timed out: the Loader returns to IDLE (with length and serial 0: the model's
choice, log 40, the stopped timer too, log 52), and RULESET_TIMEOUT with the serial and the pointer is queued to the claimer. (The command is the last tick
of the timer, log 4.) -/
def Obligations.LoadTimesOut : Prop :=
  ∀ (s : State) (c : Ctl), s.running = true → s.settled → s.loader.state = .loading → s.loader.timer ≤ 1 →
    s.loader.claimer = some c → s.occupied (ctlPos c) = true → (s.lane (ctlPos c)).board.length < 48 →
    ∃ t, exec .loadTimedOut s = .next t ∧ Unchanged [.loader, .lanes, .moment] s t ∧ t.loader = .initial ∧
      (∀ q, q ≠ ctlPos c → t.lane q = s.lane q) ∧
      ∃ e ∈ (t.lane (ctlPos c)).board, e.notice = .rulesetTimeout s.loader.serial s.loader.buffer.length

/-! ### Lanes -/

/-- R161, R173, R174: on a free lane the owed response that is not withheld goes first, and holds every notice behind
it; else the oldest entry of the highest class leaves the board (`oldest` is on the board, none there is of a higher class, and
of its class it is the first in the order of R173; said of boards in that order, which every step keeps,
BoardsStayWithinRoom); a parcel begins only where it ends before frame 980. An
offer's transfer sets the offer cursor (R114). A lane is free that is IDLE, of a position not EMPTY, the card's take
toggle equal to the device's offer toggle, in frames 1 to 979 (that none is free in frame 0 is the model's choice between
R154 and R173, log 16); on another lane nothing begins. The frame in progress shows the first byte of the parcel, its last
flag and the offer toggle (R161, R183), and is otherwise as it was. -/
def Obligations.TransferBegins : Prop :=
  ∀ (s : State) (p : Pos), s.running = true → s.time.due = .nothing → s.settled →
    (∀ r, (s.lane p).sendable = some r ↔ (s.lane p).owed = some r ∧ r.withheld = false) ∧
    (s.boardsOrdered → match (s.lane p).oldest with
      | none => (s.lane p).board = []
      | some e => e ∈ (s.lane p).board ∧ ∀ x ∈ (s.lane p).board,
          x.notice.classNumber < e.notice.classNumber ∨
            x.notice.classNumber = e.notice.classNumber ∧ e.goesFirst x) ∧
    (s.laneFree p = true ↔ s.occupied p = true ∧ s.time.frame ≠ 0 ∧ s.time.frame < 980 ∧
      (s.lane p).sending = none ∧ (s.lane p).cardTake = (s.lane p).offer) ∧
    (s.laneFree p = false → exec (.transferBegin p) s = .next { s with moment := s.moment + 1 }) ∧
    (s.laneFree p = true → ∃ t, exec (.transferBegin p) s = .next t ∧
      Unchanged [.roster, .lanes, .bus, .moment] s t ∧
      t.bus.word = s.bus.word ∧ (∀ q, q ≠ p → t.bus.segments.get q = s.bus.segments.get q) ∧
      ((t.lane p).sending = none → t.bus = s.bus) ∧
      (∀ x, (t.lane p).sending = some x →
        (t.bus.segments.get p).extractLsb' 33 8 = x.bytes.headD 0 ∧
        (t.bus.segments.get p).getLsbD 32 = !(s.lane p).offer ∧
        (t.bus.segments.get p).getLsbD 31 = decide (x.bytes.length = 1) ∧
        (t.bus.segments.get p).extractLsb' 0 31 = (s.bus.segments.get p).extractLsb' 0 31 ∧
        (t.bus.segments.get p).extractLsb' 41 55 = (s.bus.segments.get p).extractLsb' 41 55) ∧
      (∀ q, q ≠ p → t.lane q = s.lane q ∧ t.pos q = s.pos q) ∧
      match (s.lane p).sendable with
      | some r =>
        t.pos p = s.pos p ∧
        t.lane p = if s.time.frame + r.parcel.length + 8 ≤ 980
          then { s.lane p with sending := some ⟨r.parcel, 0, .response⟩, offer := !(s.lane p).offer }
          else s.lane p
      | none =>
        match (s.lane p).oldest with
        | none => t.pos p = s.pos p ∧ t.lane p = s.lane p
        | some e =>
          let bytes := s.noticeParcel p e.notice
          if 980 < s.time.frame + bytes.length + 8 then t.pos p = s.pos p ∧ t.lane p = s.lane p
          else if e.notice.isOffer then
            t.pos p = { s.pos p with cursor := some ((s.pos p).held, s.scale.g) } ∧
            t.lane p = { s.lane p with
              sending := some ⟨bytes, 0, .offer⟩, offer := !(s.lane p).offer
              board := (s.lane p).board.filter fun x => !x.notice.isOffer }
          else
            t.pos p = s.pos p ∧
            t.lane p = { s.lane p with
              sending := some ⟨bytes, 0, .notice⟩, offer := !(s.lane p).offer
              board := (s.lane p).board.erase e })

/-- R161, R166: the card takes the rest of the parcel in transfer (all at once in this command, with the toggles that
result: the model's choice, log 5): the outbound direction is IDLE, and after a response nothing is owed and the inbound
direction is OPEN. In the quiet frames nothing is taken (R163). At the end of a frame the card takes at most one byte: a
byte not taken stays on offer, the next one follows it, and the last one completes the transfer. -/
def Obligations.TransferCompletes : Prop :=
  (∀ (s : State) (p : Pos) (x : Transfer), s.running = true → s.time.due = .nothing → s.settled →
    (s.lane p).sending = some x → x.taken < x.bytes.length →
    (980 ≤ s.time.frame → exec (.transferComplete p) s = .next s) ∧
    (s.time.frame < 980 → ∃ t, exec (.transferComplete p) s = .next t ∧ Unchanged [.lanes, .moment] s t ∧
      (∀ q, q ≠ p → t.lane q = s.lane q) ∧
      let offer := if (x.bytes.length - x.taken) % 2 = 1 then (s.lane p).offer else !(s.lane p).offer
      t.lane p = if x.what = .response
        then { s.lane p with sending := none, offer := offer, cardTake := offer, owed := none, inbound := .opened }
        else { s.lane p with sending := none, offer := offer, cardTake := offer })) ∧
  ∀ (s : State) (segs : List (BitVec 48)) (order : FrameOrder) (p : Pos) (x : Transfer), s.running = true →
    s.time.due = .nothing → s.time.frame < 979 → s.occupied p = true → (s.lane p).sending = some x →
    x.taken < x.bytes.length →
    ∃ t, exec (.frameEnd segs order) s = .next t ∧
      (t.occupied p = true →
        let l := s.lane p
        let c := segmentOf segs p
        (c.take ≠ l.offer → (t.lane p).sending = some x ∧ (t.lane p).offer = l.offer) ∧
        (c.take = l.offer → x.taken + 1 < x.bytes.length →
          (t.lane p).sending = some { x with taken := x.taken + 1 } ∧ (t.lane p).offer = !l.offer) ∧
        (c.take = l.offer → x.taken + 1 = x.bytes.length →
          (∀ y, (t.lane p).sending = some y → y.taken = 0) ∧
          (x.what = .response → c.offer = l.take → (t.lane p).owed = none ∧ (t.lane p).inbound = .opened)))

/-- R164, R165: malformed bytes are answered BAD_FORM with the kind byte as received, and a well-formed parcel whose
kind is no request kind is answered UNKNOWN_KIND. (The subject bits of a BAD_FORM are 0, log 26.) -/
def Obligations.BadParcelsAnswered : Prop :=
  ∀ (s : State) (p : Pos) (bytes : List Byte) (kind : Byte) (payload : List Byte), s.settled →
    s.hears p = true →
    let held (n : Nat) (code : Code) (content : List Byte) : Lane :=
      { s.lane p with
        inbound := .held, buffer := [], take := if n % 2 = 1 then !(s.lane p).take else (s.lane p).take
        owed := some { code := code, kind := kind, subject := 0, content := content, withheld := false } }
    (malformed bytes = some kind →
      ∃ t, exec (.badForm p bytes) s = .next t ∧ Unchanged [.lanes, .moment] s t ∧
        t.lane p = held bytes.length .badForm [kind] ∧ ∀ q, q ≠ p → t.lane q = s.lane q) ∧
    (kind ∉ requestKinds → payload.length ≤ 30 →
      ∃ t, exec (.unknownKind p kind payload) s = .next t ∧ Unchanged [.lanes, .moment] s t ∧
        t.lane p = held (2 + payload.length) .unknownKind [] ∧ ∀ q, q ≠ p → t.lane q = s.lane q)

/-- R164, R165: the form of a parcel, judged byte by byte on an OPEN lane: it is well formed exactly when its length
byte is at most 30 and gives the number of bytes that follow; every other parcel ends in BAD_FORM on a HELD lane. R160: at
the end of a frame a lane takes at most one byte: none where none is on offer, where the lane is HELD, and where it is OPEN
after frame 948; a parcel that the byte completes is answered as a request, or BAD_FORM or UNKNOWN_KIND, and a QUERY with
what the frame's end leaves (R170); a MUTE_SOURCE of an action that R184 does not name is refused (R48). R165, R166: of a frame
that completes one request alone, where no position qualifies a new value, no load times out and the lead stays, the answer, and
the state but for the frame's own counts, are those of the request's own command `c`, taken from the state `v` in which the load's
timer has been lowered and the lane is OPEN; from a board, only what a transfer carries is gone. (The subject bits of a BAD_FORM are 0: the model's choice, log 26.) -/
def Obligations.ParcelForm : Prop :=
  (∀ (l : Lane) (kind len : Byte) (rest : List Byte), l.inbound = .opened →
    feed [kind] l =
      ({ l with inbound := .held, buffer := [], owed := some (badFormResponse kind) }, none) ∧
    (if len.toNat ≤ 30 ∧ rest.length = len.toNat
      then feed (kind :: len :: rest) l = ({ l with inbound := .held, buffer := [] }, some (kind, rest))
      else feed (kind :: len :: rest) l =
        ({ l with inbound := .held, buffer := [], owed := some (badFormResponse kind) }, none)) ∧
    (malformed (kind :: len :: rest) = some kind ↔
      ¬(len.toNat ≤ 30 ∧ rest.length = len.toNat) ∨ Request.parse kind rest = .error .badForm)) ∧
  (∀ (s : State) (segs : List (BitVec 48)) (order : FrameOrder) (p : Pos), s.running = true →
    s.time.due = .nothing → s.time.frame < 979 → s.occupied p = true → (s.lane p).sending = none →
    ∃ t, exec (.frameEnd segs order) s = .next t ∧
      (t.occupied p = true →
        let l := s.lane p
        let m := t.lane p
        let c := segmentOf segs p
        (c.offer = l.take ∨ l.inbound = .held ∨ l.inbound = .opened ∧ 948 < s.time.frame →
          m.take = l.take ∧ m.inbound = l.inbound ∧ m.buffer = l.buffer ∧ m.owed = l.owed) ∧
        (c.offer ≠ l.take → l.inbound ≠ .held → (l.inbound = .opened → s.time.frame ≤ 948) →
          m.take = c.offer ∧
          match l.takeByte c.laneByte c.last with
          | (n, none) => m.inbound = n.inbound ∧ m.buffer = n.buffer ∧ m.owed = n.owed
          | (_, some (kind, payload)) =>
            m.inbound = .held ∧ m.buffer = [] ∧
            match Request.parse kind payload with
            | .error code => m.owed = some { code := code, kind := kind, subject := 0
                                             content := if code = .badForm then [kind] else [], withheld := false }
            | .ok r => ∃ a, m.owed = some a ∧ a.kind = kind ∧ a.subject = r.subject ∧
              (∀ k i, r = .query k i →
                match content t k i.toNat with
                | .ok b => a.code = .accepted ∧ a.content = i :: b
                | .error code => a.code = code ∧ a.content = []) ∧
              ∀ q o action, r = .muteSource q o action → 2 ≤ action.toNat →
                a.code = (if t.holdsLead p then .outOfRange else .notPermitted) ∧ a.content = []))) ∧
  ∀ (s : State) (segs : List (BitVec 48)) (order : FrameOrder) (p : Pos) (kind : Byte) (payload : List Byte) (r : Request)
    (c : Instr), s.running = true → s.time.due = .nothing → s.time.frame < 979 →
    s.arrivals segs = [(p, kind, payload)] → payload.length ≤ 30 → Request.parse kind payload = .ok r →
    (∀ k i, r ≠ .query k i) → requestOf c = some (p, r) → (∀ q, s.unmoved segs q) →
    let timer := if s.loader.state = .loading ∧ s.loader.fresh = false then s.loader.timer - 1 else s.loader.timer
    (s.loader.state = .loading → timer ≠ 0) →
    let v : State := { s with
      time := { s.time with frame := 0 }, loader := { s.loader with timer := timer }
      lanes := s.lanes.put p { s.lane p with inbound := .opened, buffer := [] } }
    ∃ t u, exec (.frameEnd segs order) s = .next t ∧ exec c v = .next u ∧ (t.time.holder = s.time.holder →
      (t.lane p).inbound = .held ∧ (t.lane p).owed = (u.lane p).owed ∧
      Unchanged [.time, .rehearsal, .roster, .loader, .lanes, .bus] u t ∧
      t.time.t = u.time.t ∧ t.time.pendingTime = u.time.pendingTime ∧ t.loader = { u.loader with fresh := false } ∧
      { t.rehearsal with detail := u.rehearsal.detail } = u.rehearsal ∧
      (s.rehearsal.phase ≠ .armed → t.rehearsal = u.rehearsal) ∧
      ∀ q, { t.pos q with sIntent := (u.pos q).sIntent, sRole := (u.pos q).sRole, sHeld := (u.pos q).sHeld
                          sReady := (u.pos q).sReady, cursor := (u.pos q).cursor } = u.pos q ∧
        ((t.lane q).sending = none → (t.lane q).board = (u.lane q).board) ∧
        (∀ e ∈ (t.lane q).board, e ∈ (u.lane q).board) ∧
        ∀ e ∈ (u.lane q).board, e ∈ (t.lane q).board ∨
          ∃ x, (t.lane q).sending = some x ∧ x.bytes = t.noticeParcel q e.notice)

/-- R165, R185: every request whose payload fits is read back from its kind and its payload, and nothing else is read
as a request: a payload that spells a request is that request's own. -/
def Obligations.RequestRoundTrip : Prop :=
  (∀ r : Request, r.payload.length ≤ 30 → Request.parse r.kind r.payload = .ok r) ∧
  ∀ (kind : Byte) (b : List Byte) (r : Request), Request.parse kind b = .ok r →
    r.kind = kind ∧ r.payload = b ∧ kind ∈ requestKinds

/-- R167: a refused request changes nothing but the sender's lane, which owes the refusal. -/
def Obligations.RefusedChangesNothing : Prop :=
  ∀ (c : Instr) (s t : State) (p : Pos) (r : Request) (answer : Response), requestOf c = some (p, r) →
    s.settled → s.hears p = true → r.payload.length ≤ 30 → exec c s = .next t →
    (t.lane p).owed = some answer → answer.code ≠ .accepted →
    TurnedDown p r answer.code answer.content s t

/-! ### Requests -/

/-- R35 to R41 (R184: the codes of the origins): ANNOUNCE, check by check, and the entry that a taken one leaves: that of its key, or else the FREE entry
with the lowest index (R36), or else the STALE entry longest unheard, the lowest index among equals (R37). R60: a new
effective view or key clears the entry's trailing mark. R50, R57: where the entry's state, key or vouched view has changed,
the Change Schedule takes a tally of the state with the new entry, and SOURCE_STATE tells the controllers (R51; said where the
records are in order and the board has room, where its place before the tally's notices, log 65, is not seen); else nothing but
the entry changes. -/
def Obligations.AnnounceJudged : Prop :=
  (∀ (code : Byte) (o : SourceOrigin), originOf code = some o ↔ code.toNat = o.number) ∧
  ∀ (s : State) (p : Pos) (origin ds kind : Byte) (instant : Option (BitVec 40)), s.settled → s.hears p = true →
    ∃ t, exec (.announce p origin ds kind instant) s = .next t ∧
      let r := Request.announce origin ds kind instant
      match originOf origin with
      | none => TurnedDown p r .outOfRange [] s t
      | some o =>
        if o = .operator ∧ 2 ≤ p.val then TurnedDown p r .notPermitted [] s t
        else if 3 ≤ kind.toNat then TurnedDown p r .outOfRange [] s t
        else match announcedView s.time.t ds.toNat kind (instant.map BitVec.toNat) with
        | .error code => TurnedDown p r code [] s t
        | .ok v =>
          match (s.entryOf ⟨p, o⟩).or s.roomFor with
          | none =>
            TurnedDown p r .tableFull [] s t ∧ ∀ j, (s.source j).key ≠ some ⟨p, o⟩ ∧
              (s.source j).state ≠ .free ∧ (s.source j).state ≠ .stale
          | some i =>
            let e := if (s.source i).key = some ⟨p, o⟩ then s.source i else Source.fresh ⟨p, o⟩ s.time.t
            let run := if e.candidate = some v then min 15 (e.run + 1) else 1
            let vouched := if s.value Config.persistence ≤ run then some v else e.vouched
            let state := if e.state = .muted then SourceState.muted
              else if vouched.isSome then .vouching else .listening
            Owes p r .accepted [BitVec.ofNat 8 i.val, BitVec.ofNat 8 state.number, BitVec.ofNat 8 run] t ∧
            t.source i =
              { key := some ⟨p, o⟩, state := state, run := run, candidate := some v, vouched := vouched,
                lastHeard := s.time.t, allocated := e.allocated, silence := 0 } ∧
            (∀ j, j ≠ i → t.source j = s.source j) ∧
            Unchanged [.sources, .sched, .scale, .lanes, .store, .moment] s t ∧
            Reheard i (s.judged p r) t ∧
            ((s.source i).key = some ⟨p, o⟩ ∨
              (∀ j, (s.source j).key ≠ some ⟨p, o⟩) ∧
              (((s.source i).state = .free ∧ ∀ j, (s.source j).state = .free → i ≤ j) ∨
                ((∀ j, (s.source j).state ≠ .free) ∧ (s.source i).state = .stale ∧
                  ∀ j, (s.source j).state = .stale → (s.source j).silence < (s.source i).silence ∨
                    (s.source j).silence = (s.source i).silence ∧ i ≤ j)))

/-- R20, R21, R35 (checks 4 to 6): the view that an ANNOUNCE forms: its effective day from a supplied instant that
falls on the source's own UTC midnight, or inferred from T; for T unknown UNSET, and out of range OUT_OF_RANGE. -/
def Obligations.AnnouncedViews : Prop :=
  ∀ (t : Option Nat) (ds : Nat) (instant : Option Nat),
    announcedView t ds 0 instant = .ok ⟨ds, none⟩ ∧
    (255 ≤ ds → announcedView t ds 1 instant = .error .outOfRange) ∧
    announcedView t 0 2 instant = .error .outOfRange ∧
    (∀ i, ds < 255 →
      (∀ e, 1 ≤ e → e ≤ 12725829 → i = 86400 * e + ds + 1 →
        announcedView t ds 1 (some i) = .ok ⟨ds, some ⟨.insert, e, false⟩⟩) ∧
      ((∀ e, 1 ≤ e → e ≤ 12725829 → i ≠ 86400 * e + ds + 1) →
        announcedView t ds 1 (some i) = .error .outOfRange)) ∧
    (∀ i, 0 < ds →
      (∀ e, 1 ≤ e → e ≤ 12725829 → i + 1 = 86400 * e + ds →
        announcedView t ds 2 (some i) = .ok ⟨ds, some ⟨.delete, e, false⟩⟩) ∧
      ((∀ e, 1 ≤ e → e ≤ 12725829 → i + 1 ≠ 86400 * e + ds) →
        announcedView t ds 2 (some i) = .error .outOfRange)) ∧
    (ds < 255 → announcedView none ds 1 none = .error .unset) ∧
    (0 < ds → announcedView none ds 2 none = .error .unset) ∧
    ∀ n, ds < n →
      (ds < 255 → announcedView (some n) ds 1 none =
        if (n - ds) / 86400 + 1 ≤ 12725829 then .ok ⟨ds, some ⟨.insert, (n - ds) / 86400 + 1, true⟩⟩
        else .error .outOfRange) ∧
      (0 < ds → announcedView (some n) ds 2 none =
        if (n - ds) / 86400 + 1 ≤ 12725829 then .ok ⟨ds, some ⟨.delete, (n - ds) / 86400 + 1, true⟩⟩
        else .error .outOfRange)

/-- R48, R49 (R184: the codes of the origins): MUTE_SOURCE of action MUTE and of action UNMUTE. R50, R57: where it changes the entry's state, the Change
Schedule takes a tally of the state with the new entry, and SOURCE_STATE tells the controllers (R51; said where the records
are in order and the board has room, where its place before the tally's notices, log 65, is not seen). -/
def Obligations.MuteSourceJudged : Prop :=
  (∀ (code : Byte) (o : SourceOrigin), originOf code = some o ↔ code.toNat = o.number) ∧
  ∀ (s : State) (p : Pos) (target origin : Byte) (mute : Bool), s.settled → s.hears p = true →
    ∃ t, exec (if mute then .muteSourceMute p target origin else .muteSourceUnmute p target origin) s = .next t ∧
      let r := Request.muteSource target origin (if mute then 0 else 1)
      if s.holdsLead p = false then TurnedDown p r .notPermitted [] s t
      else match originOf origin, (if h : target.toNat < 12 then some (⟨target.toNat, h⟩ : Pos) else none) with
      | some o, some q =>
        match s.entryOf ⟨q, o⟩ with
        | none => TurnedDown p r .notFound [] s t
        | some i =>
          Owes p r .accepted [] t ∧ (∀ j, j ≠ i → t.source j = s.source j) ∧
          Unchanged [.sources, .sched, .scale, .lanes, .store, .moment] s t ∧ Reheard i (s.judged p r) t ∧
          t.source i = { s.source i with
            state :=
              if mute then .muted
              else if (s.source i).state ≠ .muted then (s.source i).state
              else if s.occupied q = false ∨ s.value Config.stalenessLimit ≤ (s.source i).silence then .stale
              else if (s.source i).vouched.isSome then .vouching else .listening }
      | _, _ => TurnedDown p r .outOfRange [] s t

/-- R16: SET_TIME, step by step. The pending value is consumed at the boundary that is due, a realignment's included, also
where that boundary carries out a CLEAR_SCALE; a confirming one (T + 1) changes nothing there. Start-up discards it. It
survives the acceptance of a CLEAR_SCALE and every frame in which no other SET_TIME completes, a change of lead holder among
them. While T is unknown no group is armed, a premise that every command keeps. -/
def Obligations.SetTimeJudged : Prop :=
  (∀ (s : State) (p : Pos) (x : BitVec 40), s.settled → s.hears p = true →
    ∃ t, exec (.setTime p x) s = .next t ∧
      let r := Request.setTime x
      let retime := match s.time.t with
        | some n => x.toNat != n + 1 && s.armedGroups.any fun g => decide (g.affected ≤ n + 2)
        | none => false
      if s.holdsLead p = false then TurnedDown p r .notPermitted [] s t
      else if x.toNat < 256 ∨ 2 ^ 40 - 2 < x.toNat then TurnedDown p r .outOfRange [] s t
      else if retime then TurnedDown p r .busy [] s t
      else Answers p r .accepted [] s t ∧ Unchanged [.time, .lanes, .moment] s t ∧
        t.time = { s.time with pendingTime := some x.toNat }) ∧
  (∀ (s : State) (x : Nat) (command : Instr), s.running = true → s.time.pendingTime = some x →
    command = .secondBoundary ∧ s.time.due = .second ∨
      command = .realignment ∧ (∃ q, s.time.due = .realign q) →
    (∃ t, exec command s = .next t ∧ t.time.t = some x ∧ t.time.pendingTime = none ∧
      (s.scale.clearPending = true → t.scale.d = none ∧ t.records = [])) ∧
    (s.time.t = some (x - 1) → 256 ≤ x → x ≤ 2 ^ 40 - 2 →
      exec command s = exec command { s with time := { s.time with pendingTime := none } })) ∧
  (∀ s : State, ∃ t, exec .startUp s = .next t ∧ t.time.pendingTime = none) ∧
  (∀ (s : State) (p : Pos), ∃ t, exec (.clearScale p) s = .next t ∧ t.time.pendingTime = s.time.pendingTime) ∧
  (∀ (s : State) (segs : List (BitVec 48)) (order : FrameOrder), s.running = true → s.time.due = .nothing →
    (∀ a ∈ requestsOf (s.arrivals segs), ∀ x, a.2 ≠ .setTime x) →
    ∃ t, exec (.frameEnd segs order) s = .next t ∧ t.time.pendingTime = s.time.pendingTime) ∧
  ∀ (s t : State) (command : Instr), (s.time.t = none → s.armedGroups = []) → exec command s = .next t →
    t.time.t = none → t.armedGroups = []

/-- R75: SET_OFFSET, step by step. Step 7: the tally is taken of a state that stands as the records do once every BASELINE to
another target is withdrawn REPLACED, SOURCES ones among them listed in schedule order (log 47), the item for the value has
left the withdrawn list (after those are listed: log 60), where there is no room the HEARD leap with the lowest tally, the
earliest creation and the lowest id is withdrawn DISPLACED, and the BASELINE to the value is QUALIFIED with origin OPERATOR, found
or placed. WITHDRAWN tells of each withdrawal (said where the board has room and the tally gives the id to no other record).
After the tally no other BASELINE stands QUALIFIED, HELD or ARMED beside it. -/
def Obligations.SetOffsetJudged : Prop :=
  ∀ (s : State) (p : Pos) (value : BitVec 16), s.settled → s.hears p = true → s.recordsFit → s.listFits →
    ∃ t, exec (.setOffset p value) s = .next t ∧
      let r := Request.setOffset value
      let v := value.toNat
      let kept := s.records.filter fun x => x.isScale && (!x.change.isBaseline || x.change == .baseline v)
      if s.holdsLead p = false then TurnedDown p r .notPermitted [] s t
      else if 255 < v then TurnedDown p r .outOfRange [] s t
      else if s.records.any (fun x => x.change.isLeap && (x.state == .armed || x.state == .settling)) then
        TurnedDown p r .busy [] s t
      else if s.scale.d = some v then
        Answers p r .accepted [] s t ∧ Unchanged [.scale, .lanes, .moment] s t ∧
        t.scale = { s.scale with confirmPending := s.scale.confirmPending || s.scale.provisional }
      else if s.records.any (fun x => x.change == .baseline v && x.state == .armed) then
        Owes p r .accepted [] t ∧ Unchanged [.sched, .scale, .lanes, .store, .moment] s t ∧
        (∃ x ∈ t.records, x.change = .baseline v ∧ x.state = .armed ∧ x.origin = .operator) ∧
        ∀ x ∈ s.records, x.change = .baseline v →
          Unchanged [.lanes, .store]
            ((s.judged p r).updateRecord x.id fun y => { y with origin := .operator }).tally t
      else if kept.any (fun x => x.change == .baseline v) || decide (kept.length < 5) ||
          s.records.any (fun x => x.change.isLeap && x.state == .heard) then
        Owes p r .accepted [] t ∧ Unchanged [.sched, .scale, .lanes, .store, .moment] s t ∧
        (∃ x ∈ t.records, x.change = .baseline v ∧ x.state = .qualified ∧ x.origin = .operator) ∧
        (∀ x ∈ t.records, ∀ y, x.change = .baseline y → y ≠ v → x.state = .heard ∨ x.state = .contested) ∧
        ∃ u, Unchanged [.lanes, .store] u.tally t ∧ OffsetPlaced v (s.judged p r) u ∧
          ∀ x ∈ s.records, (∀ y ∈ u.records, y.id ≠ x.id) → (∀ y ∈ u.weighed.records, y.id ≠ x.id) →
            ∀ q, s.occupied q = true → (x.state = .armed ∨ q.val < 2) → (s.lane q).board.length ≤ 10 →
              ∃ e ∈ (t.lane q).board,
                e.notice = .withdrawn x.id x.change (if x.change.isBaseline then .replaced else .displaced)
      else TurnedDown p r .scheduleFull [] s t

/-- R74, R95: CONFIRM, row by row, and CLEAR_SCALE, which sets the pending marker. -/
def Obligations.ConfirmAndClearJudged : Prop :=
  ∀ (s : State) (p : Pos) (id : Byte), s.settled → s.hears p = true →
    (∃ t, exec (.confirm p id) s = .next t ∧
      let r := Request.confirm id
      if s.holdsLead p = false then TurnedDown p r .notPermitted [] s t
      else if id = 0 then
        match s.scale.d with
        | none => TurnedDown p r .unset [] s t
        | some _ =>
          Answers p r .accepted [] s t ∧ Unchanged [.scale, .lanes, .moment] s t ∧
          t.scale = { s.scale with confirmPending := s.scale.confirmPending || s.scale.provisional }
      else match s.findRecord id.toNat with
        | none => TurnedDown p r .notFound [] s t
        | some x =>
          if x.change.isBaseline = true ∧ x.state = .held then
            Owes p r .accepted [] t ∧
            Unchanged [.lanes, .store]
              (((s.judged p r).updateRecord x.id fun y => { y with state := .qualified }).tally) t
          else TurnedDown p r .wrongState [] s t) ∧
    ∃ t, exec (.clearScale p) s = .next t ∧
      if s.holdsLead p = false then TurnedDown p .clearScale .notPermitted [] s t
      else Answers p .clearScale .accepted [] s t ∧ Unchanged [.scale, .lanes, .moment] s t ∧
        t.scale = { s.scale with clearPending := true }

/-- R72: WITHDRAW, step by step; the record is withdrawn with reason REQUEST, the transition behind a RULESET record
is marked skipped, and a tally is taken. -/
def Obligations.WithdrawJudged : Prop :=
  ∀ (s : State) (p : Pos) (id : Byte), s.settled → s.hears p = true →
    ∃ t, exec (.withdraw p id) s = .next t ∧
      let r := Request.withdraw id
      if s.holdsLead p = false then TurnedDown p r .notPermitted [] s t
      else if id = 0 then TurnedDown p r .outOfRange [] s t
      else match s.findRecord id.toNat with
      | none => TurnedDown p r .notFound [] s t
      | some x =>
        if x.state = .settling then TurnedDown p r .wrongState [] s t
        else if x.state = .armed ∧ ∃ g ∈ s.scale.groups, x.tag = some g.tag ∧ g.roll.isSome = true then
          TurnedDown p r .tooLate [] s t
        else Owes p r .accepted [] t ∧
          Unchanged [.lanes, .store] ((((s.judged p r).withdraw x .request).markSkipped x).tally) t

/-- R71, R65, R88: a withdrawal takes the record out of the schedule; a SOURCES record withdrawn REQUEST, OPPOSED,
RANGE or REPLACED is listed as the newest item; an armed group that loses its last record frees its tag; WITHDRAWN is queued
to each controller position that is not EMPTY, and for an ARMED record to every position that is not EMPTY. -/
def Obligations.WithdrawalTakesOut : Prop :=
  ∀ (s : State) (r : Record) (why : Reason), s.recordsOrdered →
    (s.withdraw r why).records = s.records.filter (fun x => x.id != r.id) ∧
    (r.origin = .sources → why = .request ∨ why = .opposed ∨ why = .range ∨ why = .replaced →
      (s.withdraw r why).sched.listed.getLast? = some ⟨r.change, why, s.time.t⟩) ∧
    (r.origin ≠ .sources ∨ why = .lapsed ∨ why = .met ∨ why = .displaced →
      (s.withdraw r why).sched.listed = s.sched.listed) ∧
    (r.state = .armed → ∀ g ∈ (s.withdraw r why).scale.groups,
      ∃ x ∈ (s.withdraw r why).records, x.state = .armed ∧ x.tag = some g.tag) ∧
    (r.state ≠ .armed → (s.withdraw r why).scale = s.scale) ∧
    (∀ q, (s.withdraw r why).lane q =
      if s.occupied q = true ∧ (r.state = .armed ∨ q.val < 2) then
        (s.lane q).enqueue s.moment (.withdrawn r.id r.change why)
      else s.lane q) ∧
    Unchanged [.sched, .scale, .lanes] s (s.withdraw r why)

/-- R131, R132, R134: SHIFT_ZONE, check by check, and the record it places; the zone's record before it, if any, is
gone, and the transition behind one of origin RULESET is marked skipped. R57: the tally is taken of a state in which that record
stands among the others, which stand as they did (ZonePlaced of Safety.lean; R54: its id); but for lanes and store the outcome is
that tally's. R71: WITHDRAWN with reason REPLACED tells the controllers of the record replaced (said where the board has room and
the tally gives its id to no other record). -/
def Obligations.ShiftZoneJudged : Prop :=
  ∀ (s : State) (p : Pos) (zone : Byte) (offset : BitVec 16) (instant : BitVec 40), s.settled →
    s.hears p = true → s.recordsFit →
    ∃ t, exec (.shiftZone p zone offset instant) s = .next t ∧
      let r := Request.shiftZone zone offset instant
      if s.holdsLead p = false then TurnedDown p r .notPermitted [] s t
      else if zone.toNat < 1 ∨ 15 < zone.toNat ∨ offset.toInt < -720 ∨ 840 < offset.toInt then
        TurnedDown p r .outOfRange [] s t
      else match s.time.t with
      | none => TurnedDown p r .unset [] s t
      | some n =>
        if instant.toNat < n + 2 then TurnedDown p r .tooLate [] s t
        else match s.zoneRecord zone.toNat with
        | some old =>
          if old.state = .armed then TurnedDown p r .busy [] s t
          else
            (∃ x ∈ t.records, x.change = .shift zone.toNat offset.toInt instant.toNat ∧
              x.affected = some instant.toNat ∧ x.origin = .operator ∧ x.state = .qualified ∧
              x.created = some n ∧ Owes p r .accepted [BitVec.ofNat 8 x.id] t ∧
              ∀ y ∈ t.records, ∀ o i, y.change = .shift zone.toNat o i → y = x) ∧
            t.rules = (if old.origin = .ruleset then
              { s.rules with transitions := s.rules.transitions.map fun y =>
                  if old.ref = some (y.zone, y.instant) then { y with skipped := true } else y }
              else s.rules) ∧
            (∃ u, Unchanged [.lanes, .store] u.tally t ∧
              ZonePlaced zone.toNat offset.toInt instant.toNat n (s.judged p r) u ∧
              ((∀ y ∈ u.weighed.records, y.id = old.id → y.change.isShift = true) →
                ∀ c, s.occupied (ctlPos c) = true → (s.lane (ctlPos c)).board.length ≤ 10 →
                  ∃ e ∈ (t.lane (ctlPos c)).board, e.notice = .withdrawn old.id old.change .replaced)) ∧
            Unchanged [.sched, .scale, .rules, .lanes, .store, .moment] s t
        | none =>
          (∃ x ∈ t.records, x.change = .shift zone.toNat offset.toInt instant.toNat ∧
            x.affected = some instant.toNat ∧ x.origin = .operator ∧ x.state = .qualified ∧
            x.created = some n ∧ Owes p r .accepted [BitVec.ofNat 8 x.id] t ∧
            ∀ y ∈ t.records, ∀ o i, y.change = .shift zone.toNat o i → y = x) ∧
          (∃ u, Unchanged [.lanes, .store] u.tally t ∧
            ZonePlaced zone.toNat offset.toInt instant.toNat n (s.judged p r) u) ∧
          Unchanged [.sched, .scale, .lanes, .store, .moment] s t

/-- R117, R169: CONFIGURE and SET_POSITION, step by step: the clamped value becomes the parameter's pending value, and
the mode and zone the position's pending settings. -/
def Obligations.SettingsJudged : Prop :=
  ∀ (s : State) (p : Pos), s.settled → s.hears p = true →
    (∀ (param : Byte) (value : BitVec 32), ∃ t, exec (.configure p param value) s = .next t ∧
      let r := Request.configure param value
      if s.holdsLead p = false then TurnedDown p r .notPermitted [] s t
      else if h : param.toNat < 12 then
        let row := Config.rows.get ⟨param.toNat, h⟩
        let v := max row.low (min row.high value.toNat)
        if param.toNat = 9 ∧ 1 < value.toNat then TurnedDown p r .outOfRange [] s t
        else Answers p r .accepted (param :: beBytes 4 v) s t ∧ Unchanged [.settings, .lanes, .moment] s t ∧
          t.settings.values = s.settings.values ∧
          ∀ k, t.settings.pending.get k = if k.val = param.toNat then some v else s.settings.pending.get k
      else TurnedDown p r .outOfRange [] s t) ∧
    ∀ target mode zone : Byte, ∃ t, exec (.setPosition p target mode zone) s = .next t ∧
      let r := Request.setPosition target mode zone
      if h : target.toNat < 12 then
        let q : Pos := ⟨target.toNat, h⟩
        if q ≠ p ∧ s.holdsLead p = false then TurnedDown p r .notPermitted [] s t
        else if hz : mode.toNat < 2 ∧ zone.toNat < 16 then
          Answers p r .accepted [mode, zone] s t ∧ Unchanged [.roster, .lanes, .moment] s t ∧
          (∀ x, x ≠ q → t.pos x = s.pos x) ∧
          t.pos q = { s.pos q with
            pendingSettings := some (if mode = 0 then .step else .smear, ⟨zone.toNat, hz.2⟩) }
        else TurnedDown p r .outOfRange [] s t
      else TurnedDown p r .outOfRange [] s t

/-- R138: RULESET_START, case by case. R139: the end of the frame of the claim or restart does not lower the timer, which
`fresh`, the model's own field, records where no boundary is due; where one is, the START belongs to the frame that has
ended (the model's choice, log 34), and the statement leaves the field open. -/
def Obligations.RulesetStartJudged : Prop :=
  ∀ (s : State) (p : Pos) (length : BitVec 16) (units : Byte) (serial : BitVec 32), s.settled → s.hears p = true →
    ∃ t, exec (.rulesetStart p length units serial) s = .next t ∧
      let r := Request.rulesetStart length units serial
      let l := length.toNat
      let u := units.toNat
      match posCtl p with
      | none => TurnedDown p r .notPermitted [] s t
      | some c =>
        if l < 12 ∨ 524 < l ∨ (l - 12) % 8 ≠ 0 ∨ u < 1 ∨ 63 < u then TurnedDown p r .outOfRange [] s t
        else if s.loader.state ≠ .idle ∧ s.loader.claimer ≠ some c then TurnedDown p r .busy [] s t
        else if s.loader.state = .verifying then TurnedDown p r .busy [] s t
        else Answers p r .accepted (beBytes 2 l ++ beBytes 2 (u * 100)) s t ∧
          Unchanged [.loader, .lanes, .moment] s t ∧
          ∃ f, (s.time.due = .nothing → f = true) ∧
            t.loader = { state := .loading, claimer := some c, length := l, serial := serial, buffer := [],
                         timer := u * 100, fresh := f }

/-- R140 to R142: RULESET_DATA, RULESET_FINISH and RULESET_ABANDON, case by case. A FINISH that is taken owes a
response that is withheld. (From a claimer in VERIFYING, which no rule names for a FINISH, it is answered WRONG_STATE:
the model's choice, log 29; an ABANDON leaves length and serial 0, log 40; the stopped timer holds 0, log 52.) -/
def Obligations.RulesetLoadJudged : Prop :=
  ∀ (s : State) (p : Pos), s.settled → s.hears p = true →
    let pointer := s.loader.buffer.length
    let gate (r : Request) (verifying : Code) (t : State) (go : Prop) : Prop :=
      if s.loader.state = .idle then TurnedDown p r .wrongState [] s t
      else if s.loader.claimer ≠ posCtl p then TurnedDown p r .busy [] s t
      else if s.loader.state = .verifying then TurnedDown p r verifying [] s t
      else go
    (∀ bytes : List Byte, bytes.length ≤ 30 → ∃ t, exec (.rulesetData p bytes) s = .next t ∧
      let r := Request.rulesetData bytes
      if posCtl p = none then TurnedDown p r .notPermitted [] s t
      else if bytes = [] ∨ 16 < bytes.length then TurnedDown p r .outOfRange [] s t
      else gate r .wrongState t
        (if s.loader.length < pointer + bytes.length then TurnedDown p r .overrun (beBytes 2 pointer) s t
        else Answers p r .accepted (beBytes 2 (pointer + bytes.length)) s t ∧
          Unchanged [.loader, .lanes, .moment] s t ∧
          t.loader = { s.loader with buffer := s.loader.buffer ++ bytes })) ∧
    (∃ t, exec (.rulesetFinish p) s = .next t ∧
      let r := Request.rulesetFinish
      if posCtl p = none then TurnedDown p r .notPermitted [] s t
      else gate r .wrongState t
        (if pointer < s.loader.length then TurnedDown p r .short (beBytes 2 pointer) s t
        else Unchanged [.loader, .lanes, .moment] s t ∧
          t.loader = { s.loader with state := .verifying, timer := 0 } ∧
          (∀ q, q ≠ p → t.lane q = s.lane q) ∧
          t.lane p = { s.answered p r .accepted [] with
            owed := some { code := .accepted, kind := 0x22, subject := 0, content := [], withheld := true } })) ∧
    ∃ t, exec (.rulesetAbandon p) s = .next t ∧
      let r := Request.rulesetAbandon
      if posCtl p = none then TurnedDown p r .notPermitted [] s t
      else gate r .tooLate t
        (Answers p r .accepted [] s t ∧ Unchanged [.loader, .lanes, .moment] s t ∧ t.loader = .initial)

/-- R119, R125, R126: REHEARSE and REHEARSAL_CANCEL, step by step (that the span, the arming boundary and the requester
are kept after a cancellation is the model's reading, log 33; that a REHEARSAL_CANCEL in CALLED, which R125 says it never meets,
is taken as in ARMED is the model's choice, log 61). At a second boundary: R120: a PENDING rehearsal arms where
no real group does, under tag 1, in range, with its ARMED notice (said for a device where nothing else is afoot and the
board has room), and is cancelled out of range; R126: a real group that arms cancels it, PENDING or armed (said for a SHIFT,
and for a leap or a BASELINE where no source counts); R124: at its affected second it is completed, and nothing is applied.
However a rehearsal ends, at its request or at a boundary, no board keeps a pending ARMED of record id 0, and
REHEARSAL_RESULT goes to the lead holder, without one to the requester, and to no one else (R127; said at a boundary with at
most one record and no source that counts, where the board has room). -/
def Obligations.RehearsalJudged : Prop :=
  (∀ (s : State) (p : Pos), s.settled → s.hears p = true →
    (∀ span : BitVec 16, ∃ t, exec (.rehearse p span) s = .next t ∧
      let r := Request.rehearse span
      let n := max 5 (min 600 span.toNat)
      if s.holdsLead p = false then TurnedDown p r .notPermitted [] s t
      else match s.time.t, s.scale.d with
      | some now, some _ =>
        if s.rehearsal.phase ≠ .none then TurnedDown p r .busy [] s t
        else if s.scale.groups ≠ [] then TurnedDown p r .busy [] s t
        else if s.records.any (fun x => x.state == .qualified && (x.change.isBaseline ||
            x.affected.any fun a =>
              decide (now + 2 ≤ a) && decide (a ≤ now + n + 1 + s.value Config.armingLead))) then
          TurnedDown p r .busy [] s t
        else if 2 ^ 40 - 1 < now + 1 + n then TurnedDown p r .outOfRange [] s t
        else Answers p r .accepted (beBytes 2 n) s t ∧ Unchanged [.rehearsal, .lanes, .moment] s t ∧
          t.rehearsal = { phase := .pending, span := n, requester := posCtl p, tag := none, armedAt := none,
                          affected := none, detail := .fill 12 ⟨0, false, none⟩, result := none }
      | _, _ => TurnedDown p r .unset [] s t) ∧
    ∃ t, exec (.rehearsalCancel p) s = .next t ∧
      let r := Request.rehearsalCancel
      if s.holdsLead p = false then TurnedDown p r .notPermitted [] s t
      else if s.rehearsal.phase = .none then TurnedDown p r .wrongState [] s t
      else Owes p r .accepted [] t ∧ Unchanged [.rehearsal, .lanes, .moment] s t ∧
        t.rehearsal = { s.rehearsal with
          phase := .none, tag := none, affected := none
          result := some ⟨false, s.rehearsal.counts.1, s.rehearsal.counts.2⟩ } ∧
        (∀ q, ∀ e ∈ (t.lane q).board, ∀ a, e.notice = .armed a → a.id ≠ 0) ∧
        ((s.lane p).board.length < 48 →
          t.told p (.rehearsalResult s.rehearsal.counts.1 s.rehearsal.counts.2 true)) ∧
        ∀ q, q ≠ p → ∀ e ∈ (t.lane q).board, e.notice.code = 0x61 → e ∈ (s.lane q).board) ∧
  (∀ s : State, s.running = true → s.recordsFit → s.rehearsal.phase ≠ .none →
    let whom := match s.time.holder with
      | some c => some c
      | none => s.rehearsal.requester
    ∃ t, exec .secondBoundary s = .next t ∧ (t.rehearsal.phase = .none →
      (∀ q, ∀ e ∈ (t.lane q).board, ∀ a, e.notice = .armed a → a.id ≠ 0) ∧
      (∀ q, whom.map ctlPos ≠ some q → ∀ e ∈ (t.lane q).board, e.notice.code = 0x61 → e ∈ (s.lane q).board) ∧
      ∃ w, t.rehearsal.result = some w ∧
        ∀ c, whom = some c → s.still ∨ s.scale.clearPending = true → s.records.length ≤ 1 →
          s.occupied (ctlPos c) = true → (s.lane (ctlPos c)).board.length ≤ 10 →
          t.told (ctlPos c) (.rehearsalResult w.ready w.notReady !w.completed))) ∧
  ∀ (s : State) (n : Nat), s.running = true → s.time.due = .second → s.time.t = some n → n < 2 ^ 40 - 1 →
    s.time.pendingTime = none → s.scale.clearPending = false → s.scale.groups = [] →
    let r := s.rehearsal
    let ended (completed : Bool) : Rehearsal :=
      { r with phase := .none, tag := none, affected := none, result := some ⟨completed, r.counts.1, r.counts.2⟩ }
    ∃ t, exec .secondBoundary s = .next t ∧
      (r.phase = .pending → s.still → s.records = [] →
        (n + 1 + r.span ≤ 2 ^ 40 - 1 →
          t.rehearsal = { r with
            phase := .armed, tag := some 1, armedAt := some (n + 1), affected := some (n + 1 + r.span)
            detail := .build 12 fun p => { latency := 0, reached := (s.pos p).ready == 1, roll := none } } ∧
          ∀ p, s.occupied p = true → (s.lane p).board.length ≤ 10 →
            ∃ e ∈ (t.lane p).board, e.notice = .armed
              { id := 0, change := none, late := false, newValue := 0, instant := 0, affected := n + 1 + r.span
                tag := 1, start := 0, stop := 0 }) ∧
        (2 ^ 40 - 1 < n + 1 + r.span → t.rehearsal = ended false)) ∧
      (s.recordsFit → ∀ x ∈ s.records, ∀ a, r.phase ≠ .none → r.affected ≠ some (n + 1) → x.state = .qualified →
        x.origin ≠ .ruleset → x.change.isShift = true → x.affected = some a → n + 2 ≤ a →
        a ≤ n + 1 + t.value Config.armingLead → s.scale.d ≠ none → s.scale.provisional = false →
        t.rehearsal = ended false) ∧
      (s.recordsFit → s.still → s.settingsInRange → s.scale.inserting = none → r.phase ≠ .none →
        r.affected ≠ some (n + 1) → ∀ x ∈ s.records, x.state = .qualified →
        (∀ k e a d, x.change = .leap k e → x.affected = some a → n + 2 ≤ a → a ≤ n + 1 + t.value Config.armingLead →
          s.scale.d = some d → leapInRange k d = true → s.scale.provisional = false → t.rehearsal = ended false) ∧
        (∀ v, x.change = .baseline v → x.affected = none → s.scale.d ≠ some v → n + 1 < 2 ^ 40 - 1 →
          (∀ y ∈ s.records, y.leapBusy = false ∧ (y.change.isBaseline = true → y.state ≠ .armed)) →
          t.rehearsal = ended false)) ∧
      (r.phase = .armed ∨ r.phase = .called → r.affected = some (n + 1) →
        t.rehearsal = ended true ∧ t.scale.g = s.scale.g ∧ t.scale.history = s.scale.history ∧ t.zones = s.zones)

/-- R170: a QUERY of each of the eight subjects is answered ACCEPTED with the index and the content, or refused, and
changes nothing. -/
def Obligations.QueriesAnswered : Prop :=
  ∀ (s : State) (p : Pos) (i : Byte), s.settled → s.hears p = true →
    ∀ c k, (c, k) ∈ ([(.querySchedule p i, 0), (.querySource p i, 1), (.queryPosition p i, 2),
        (.queryHistory p i, 3), (.queryConfig p i, 4), (.queryZone p i, 5), (.queryRuleset p i, 6),
        (.queryRehearsal p i, 7)] : List (Instr × Byte)) →
      ∃ t, exec c s = .next t ∧
        match content s k i.toNat with
        | .ok b => Answers p (.query k i) .accepted (i :: b) s t ∧ Unchanged [.lanes, .moment] s t
        | .error code => TurnedDown p (.query k i) code [] s t

/-- R170, R187: what each subject holds at each index, field by field (records, source entries, history entries and listed
items by their layouts), and which indices are NOT_FOUND and OUT_OF_RANGE. R188: the parcel of every notice, field by field;
R113, R115: an offer goes out as CATCH_UP with the entry whose generation follows the held one, where that is not ahead of G,
and as RESYNC else. R186: the parcel of a response. R167, R184: the codes. (The model's choices: a field whose value is absent
is sent as 0 where R187 names no code for it, log 25; a key of one byte stands in the last of its three, log 17; a flag with a
byte of its own stands in bit 0, log 45; the places of the flags of RESYNC are free, log 24; an S_e beyond 2^40 − 1 is sent as
its low 40 bits, log 49.) -/
def Obligations.QueryContents : Prop :=
  ∀ (s : State) (i : Nat),
    let flag (b : Bool) : Byte := if b then 1 else 0
    (i < 20 → ∀ r, s.records[i]? = some r → s.fieldsFit →
      let roll := if r.state = .armed then (s.scale.groups.find? fun g => r.tag == some g.tag).bind Group.roll
        else r.roll
      content s 0 i = .ok (layoutRecord s.sched.agreement roll r) ∧
      (layoutRecord s.sched.agreement roll r).length = 27) ∧
    (i < 20 → s.records.length ≤ i → content s 0 i = .error .notFound) ∧
    (20 ≤ i → i < 32 ∨ 40 ≤ i → content s 0 i = .error .outOfRange) ∧
    (∀ j < 8, content s 0 (32 + j) =
      match s.sched.listed.reverse[j]? with
      | some x => .ok (layoutListed x)
      | none => .error .notFound) ∧
    (∀ h : i < 16, s.fieldsFit → content s 1 i =
      if (s.source ⟨i, h⟩).state = .free then .error .notFound
      else .ok (layoutSource ⟨i, h⟩ (s.source ⟨i, h⟩) ((s.source ⟨i, h⟩).spent s.time.t))) ∧
    (∀ h : i < 12, let p : Pos := ⟨i, h⟩
      let x := s.pos p
      content s 2 i = .ok ([BitVec.ofNat 8 i, BitVec.ofNat 8 x.state.number, BitVec.ofNat 8 x.intent.number,
        x.held.getD 0, flag x.held.isSome, BitVec.ofNat 8 x.ready, BitVec.ofNat 8 x.lag,
        (if x.mode = .step then 0 else 1), BitVec.ofNat 8 x.zone.val] ++
        beBytes 2 (s.rehearsal.detail.get p).latency ++
        match posCtl p with
        | none => [0, 0, 0, 0, 0, 0]
        | some c =>
          [BitVec.ofNat 8 x.role.number, BitVec.ofNat 8 (s.time.tracker c).mode.number] ++
          beBytes 2 ((s.time.tracker c).candidate.getD 0xFFFF) ++
          [BitVec.ofNat 8 (s.time.tracker c).run, BitVec.ofNat 8 (s.time.tracker c).misses])) ∧
    (i < 8 → content s 3 i =
      match s.scale.history.reverse[i]? with
      | some e => .ok (layoutHistory e)
      | none => .error .notFound) ∧
    (∀ e : HistoryEntry, (layoutHistory e).length = 23) ∧
    (∀ h : i < 12, content s 4 i = .ok (BitVec.ofNat 8 i :: (beBytes 4 (s.value ⟨i, h⟩) ++
      [flag (s.settings.pending.get ⟨i, h⟩).isSome] ++
      beBytes 4 ((s.settings.pending.get ⟨i, h⟩).getD 0)))) ∧
    (∀ h : i < 16, content s 5 i = .ok (BitVec.ofNat 8 i :: (signed16 (s.zones.get ⟨i, h⟩) ++
      match s.zoneRecord i with
      | some r => [BitVec.ofNat 8 r.id, BitVec.ofNat 8 r.state.number]
      | none => [0, 0]))) ∧
    (i < 64 → (s.rules.transitions.length ≤ i → content s 6 i = .error .notFound) ∧
      ∀ x, s.rules.transitions[i]? = some x → content s 6 i = .ok ([BitVec.ofNat 8 i, BitVec.ofNat 8 x.zone] ++
        signed16 x.offset ++ beBytes 5 x.instant ++ [flag x.skipped] ++ beBytes 4 s.rules.serial.toNat ++
        [BitVec.ofNat 8 s.rules.transitions.length])) ∧
    (∀ h : i < 12, let r := s.rehearsal
      let d := r.detail.get ⟨i, h⟩
      (r.phase = .none → r.result = none → content s 7 i = .error .notFound) ∧
      (r.phase ≠ .none ∨ r.result ≠ none → content s 7 i = .ok ([BitVec.ofNat 8 r.phase.number] ++
        beBytes 2 r.span ++ [BitVec.ofNat 8 (r.tag.getD 0)] ++ beBytes 5 (r.armedAt.getD 0) ++
        beBytes 5 (r.affected.getD 0) ++
        (match r.result with
          | none => [0, 0, 0]
          | some x => [if x.completed then 1 else 2, BitVec.ofNat 8 x.ready, BitVec.ofNat 8 x.notReady]) ++
        beBytes 2 d.latency ++ [flag d.reached, BitVec.ofNat 8 (rollNumber d.roll)]))) ∧
    (16 ≤ i → content s 1 i = .error .outOfRange ∧ content s 5 i = .error .outOfRange) ∧
    (12 ≤ i → content s 2 i = .error .outOfRange ∧ content s 4 i = .error .outOfRange ∧
      content s 7 i = .error .outOfRange) ∧
    (8 ≤ i → content s 3 i = .error .outOfRange) ∧ (64 ≤ i → content s 6 i = .error .outOfRange) ∧
    (∀ k : Byte, 8 ≤ k.toNat → content s k i = .error .outOfRange) ∧
    (∀ (p : Pos) (n : Notice) (b : List Byte), layoutNotice n = some b →
      (∀ j e x, n = .sourceState j e x → e.run < 16) →
      s.noticeParcel p n = b ∧ b.length = 2 + (b.getD 1 0).toNat) ∧
    (∀ (p : Pos) (h : Byte) (e : HistoryEntry), (s.pos p).held = some h → e ∈ s.scale.history →
      e.gen.setWidth 8 = h + 1 → (∀ x ∈ s.scale.history, x.gen.setWidth 8 = h + 1 → x = e) →
      (s.scale.g.setWidth 8 - h).toNat ≤ 128 →
      s.noticeParcel p .offer = [0x54, 25] ++ layoutHistory e ++ beBytes 2 s.scale.g.toNat) ∧
    (∀ p : Pos, (∀ h, (s.pos p).held = some h → 128 < (s.scale.g.setWidth 8 - h).toNat ∨
        ∀ x ∈ s.scale.history, x.gen.setWidth 8 ≠ h + 1) →
      s.noticeParcel p .offer = [0x55, 12] ++ beBytes 2 s.scale.g.toNat ++
        [Config.resyncFlags s.scale.d.isSome s.scale.provisional s.scale.inserting.isSome s.time.t.isSome,
          BitVec.ofNat 8 (s.scale.d.getD 0), BitVec.ofNat 8 (s.pos p).zone.val] ++
        signed16 (s.zones.get (s.pos p).zone) ++ beBytes 5 (s.time.t.getD 0)) ∧
    (∀ r : Response, r.parcel = [0x40, BitVec.ofNat 8 (2 + r.content.length),
      0#1 ++ r.subject ++ BitVec.ofNat 4 r.code.number, r.kind] ++ r.content) ∧
    [Code.accepted, .notPermitted, .badForm, .outOfRange, .unset, .busy, .notFound, .wrongState, .tableFull, .tooLate,
      .overrun, .short, .checkFailed, .badContent, .unknownKind, .scheduleFull].map Code.number = List.range 16 ∧
    [Change.leap .insert 1, .leap .delete 1, .baseline 0, .shift 1 0 0].map Change.kindNumber = [0, 1, 2, 3] ∧
    [RecordState.heard, .contested, .qualified, .held, .armed, .settling].map RecordState.number =
      [0, 1, 2, 3, 4, 5] ∧
    [RecordOrigin.sources, .operator, .ruleset].map RecordOrigin.number = [0, 1, 2] ∧
    [Reason.lapsed, .met, .displaced, .opposed, .request, .replaced, .range].map Reason.number =
      [0, 1, 2, 3, 4, 5, 6] ∧
    [SourceOrigin.network, .satellite, .operator].map SourceOrigin.number = [0, 1, 2] ∧
    [SourceState.free, .listening, .vouching, .stale, .muted].map SourceState.number = [0, 1, 2, 3, 4] ∧
    [PosState.empty, .joining, .inStep, .lagging, .dropped].map PosState.number = [0, 1, 2, 3, 4] ∧
    [Intent.idle, .present, .following].map Intent.number = [15, 1, 2] ∧
    [Role.none, .standby, .lead].map Role.number = [0, 1, 2] ∧
    [TrackerMode.seeking, .aligned, .flywheel].map TrackerMode.number = [1, 2, 3] ∧
    [Delivery.step, .smear].map Delivery.number = [0, 1] ∧
    [Phase.none, .pending, .armed, .called].map Phase.number = [0, 1, 2, 3] ∧
    [some RollMark.ready, some .notReady, some .notCounted, none].map rollNumber = [0, 1, 2, 3] ∧
    [HistoryKind.insert, .delete, .baseline, .shift, .clear].map HistoryKind.number = [0, 1, 2, 3, 4]

/-! ### The tally -/

/-- R57 to R70, R73, R76: what a tally counts and decides. The counts (R58, the trailing marks of R60, R59), the agreement
that grants the clearing of the provisional flag (R76), and nothing but the schedule, that grant and the controllers' boards
touched. MET and LAPSED (R64; both: MET, log 8). The withdrawn list is purged (R65; its place in the tally: log 9). Newcomers
(R62): `N` lists the changes vouched for that have no record and are not held back by the withdrawn list, in the order in
which they are placed, `H` the HEARD records of the scale class in the order in which they are displaced. The first newcomers
take the free places as HEARD records; each later one takes the place of the next of `H`, if that has a lower tally (the
change displaced is met in the next tally, log 37). R63: the refused change and SCHEDULE_FULL (a change held back by the list
is a newcomer not placed, log 10). Then the records are judged (R66, R73), the opposed ones withdrawn and listed (R70; several
in schedule order, log 47), the others released (R68): the records of the tally are those (`State.asJudged`,
`Record.isOpposed` and `State.asReleased` say it of one record). CONTEST (R69) and WITHDRAWN (R71) are queued to the
controllers (said where the board has room, where the order of several, logs 62 and 63, is not seen). After it no HEARD record stands at or above the quorum, no HEARD record of origin
SOURCES is without a vouch, and ARMED and SETTLING records are as they were, but for their tallies. -/
def Obligations.TallyOutcome : Prop :=
  ∀ s : State, s.recordsFit → s.listFits →
    let q := s.value Config.quorum
    let u := s.weighed
    let t := s.tally
    let judged := u.records.map (s.asJudged u.records)
    let kept := judged.filter fun r => !r.isOpposed q
    let hears (c : Ctl) : Prop := s.occupied (ctlPos c) = true ∧ (s.lane (ctlPos c)).board.length ≤ 10
    let told (c : Ctl) (n : Notice) : Prop := ∃ e ∈ (t.lane (ctlPos c)).board, e.notice = n
    (Unchanged [.sched, .scale, .lanes] s t ∧ t.sched.marks = s.sched.marks ∧ t.sched.agreement = s.agrees ∧
      (∀ p : Pos, 2 ≤ p.val → t.lane p = s.lane p) ∧
      t.scale = { s.scale with confirmPending := s.scale.confirmPending ||
        s.scale.d.isSome && s.scale.provisional && decide (q ≤ s.agrees) } ∧
      ∀ r ∈ u.records, r.vouch = s.vouches r.change ∧ r.oppose = s.opposes r) ∧
    (∀ r ∈ s.records, ∀ why, s.fallsAway r = some why →
      (∀ x ∈ t.records, x.change.sameKey r.change = false) ∧
      ∀ c, hears c → (∀ x ∈ u.records, x.id ≠ r.id) → told c (.withdrawn r.id r.change why)) ∧
    (u.sched.listed = s.sched.listed.filter fun x =>
      decide (0 < s.vouches x.change) && match x.change with
        | .baseline b => decide (s.scale.d ≠ some b)
        | _ => true) ∧
    (∀ (N : List Change) (H : List Record),
      N.Nodup → (∀ c ∈ N, s.isNewcomer c = true) → (∀ c ∈ s.named, s.isNewcomer c = true → c ∈ N) →
      (N.Pairwise fun a b => s.placedFirst a b = true) →
      (∀ r ∈ H, r ∈ s.records) → (H.Pairwise fun a b => s.yieldsFirst a b = true) →
      (∀ r ∈ s.records, r ∈ H ↔ r.isScale = true ∧ r.state = .heard ∧ s.fallsAway r = none) →
      let free := 5 - (s.records.filter fun r => r.isScale && (s.fallsAway r).isNone).length
      let placed (j : Nat) (n : Change) : Prop :=
        j < free ∨ ∃ r, H[j - free]? = some r ∧ s.vouches r.change < s.vouches n
      let yields (r : Record) : Prop :=
        ∃ j n, H[j]? = some r ∧ N[free + j]? = some n ∧ s.vouches r.change < s.vouches n
      (∀ j n, N[j]? = some n → placed j n → ∃ x ∈ u.records,
        x = { id := x.id, change := n, origin := .sources, state := .heard, preContest := none,
              affected := match n with
                | .leap k e => s.scale.d.map (leapAffected k e)
                | _ => none
              vouch := s.vouches n, oppose := x.oppose, restored := false, late := false, tag := none, window := none,
              created := s.time.t, ref := none, roll := none }) ∧
      (∀ j n, N[j]? = some n → ¬ placed j n → ∀ x ∈ t.records, x.change ≠ n) ∧
      (∀ r ∈ s.records, s.fallsAway r = none → ¬ yields r →
        ∃ x ∈ u.records, { x with vouch := r.vouch, oppose := r.oppose } = r) ∧
      (∀ r, yields r → (∀ x ∈ t.records, x.change ≠ r.change) ∧
        ∀ c, hears c → (∀ x ∈ u.records, x.id ≠ r.id) → told c (.withdrawn r.id r.change .displaced)) ∧
      (∀ x ∈ u.records, x.change ∈ N ∨
        ∃ r ∈ s.records, { x with vouch := r.vouch, oppose := r.oppose } = r ∧ s.fallsAway r = none ∧ ¬ yields r) ∧
      ((∀ j n, N[j]? = some n → placed j n) → t.sched.refused =
        if u.sched.listed.any (fun x => s.records.all fun r => !r.change.sameKey x.change) then s.sched.refused
        else none) ∧
      ∀ j n, N[j]? = some n → ¬ placed j n → (∀ i m, i < j → N[i]? = some m → placed i m) →
        t.sched.refused = some ⟨n, s.vouches n⟩ ∧
        ∀ c, hears c →
          (s.sched.refused.any (fun x => x.change.sameKey n) = false → told c (.scheduleFull n (s.vouches n))) ∧
          (s.sched.refused.any (fun x => x.change.sameKey n) = true → ∀ e ∈ (t.lane (ctlPos c)).board,
            e.notice.code = 0x5B → e ∈ (s.lane (ctlPos c)).board)) ∧
    t.records = kept.map (s.asReleased kept) ∧
    (∀ r ∈ u.records, r.state ≠ .contested → (s.asJudged u.records r).state = .contested → ∀ c, hears c →
      ∃ x ∈ standingAmong q u.records r.change, (∀ y ∈ standingAmong q u.records r.change, x.id ≤ y.id) ∧
        told c (.contest r.id r.change r.vouch x.id)) ∧
    (∀ r ∈ judged, r.isOpposed q = true → ∀ c, hears c → told c (.withdrawn r.id r.change .opposed)) ∧
    (let gone := judged.filter (fun r => r.isOpposed q && decide (r.origin = .sources));
      t.sched.listed = if gone = [] then u.sched.listed
        else lastN 8 ((u.sched.listed.filter fun x => !gone.any fun r => x.change.sameKey r.change) ++
          gone.map fun r => ⟨r.change, .opposed, s.time.t⟩)) ∧
    (∀ r ∈ t.records, r.state = .heard →
      r.vouch < q ∧ (r.origin = .sources → 0 < r.vouch)) ∧
    ∀ r ∈ s.records, r.state = .armed ∨ r.state = .settling →
      ∃ x ∈ t.records, { x with vouch := r.vouch, oppose := r.oppose } = r

/-! ### Arithmetic, formats, the bus -/

/-- R27 to R29: the nominal window of a leap record of instant I starts at I − lead and ends at that plus W, with lead W in
ENDING placement and floor(W / 2) in CENTRED placement. The effective window starts at the greatest of that start, the
arming boundary and the end of the window of the leap record with the next lower affected second that is ARMED or
SETTLING; it ends where the nominal one ends, or is collapsed to the instant where it would start there or later. D_old is
the D in force, and D_new is one more for an INSERT and one less for a DELETE. -/
def Obligations.NominalWindow : Prop :=
  ∀ (s : State) (k : LeapKind) (i a b d : Nat), s.value Config.smearWindow ≤ i →
    let w := s.value Config.smearWindow
    let lead := if s.value Config.placement = 0 then w else w / 2
    let start := max (max (i - lead) b) (s.windowBefore a)
    let x := s.windowOf k i a b d
    (start < i → x.start = start ∧ x.stop = i - lead + w ∧ x.length = i - lead + w - start) ∧
    (i ≤ start → x.start = i ∧ x.stop = i ∧ x.length = 0) ∧
    (b ≤ i - lead → s.windowBefore a ≤ i - lead → 2 ≤ w → x.start = i - lead ∧ x.length = w) ∧
    (start < i → s.value Config.placement = 0 → x.stop = i) ∧
    (start < i → s.value Config.placement ≠ 0 → x.stop = i + w - w / 2) ∧
    x.dOld = d ∧ (x.dNew = match k with
      | .insert => d + 1
      | .delete => d - 1) ∧
    (s.recordsOrdered → ∀ r ∈ s.records, ∀ y z, r.leapBusy = true → r.affected = some y → r.window = some z → y < a →
      (∀ q ∈ s.records, q.leapBusy = true → q ≠ r → ∀ u, q.affected = some u → u < y ∨ a ≤ u) →
      s.windowBefore a = z.stop) ∧
    ((∀ r ∈ s.records, r.leapBusy = true → ∀ y, r.affected = some y → a ≤ y) → s.windowBefore a = 0)

/-- R30: the progress of an open window. -/
def Obligations.SmearProgress : Prop :=
  ∀ (w : Window) (t u : Nat), 0 < w.length → w.length ≤ 86400 →
    w.progress t = min (t - w.start) w.length * 10 ^ 9 / w.length ∧
    min (t - w.start) w.length * 10 ^ 9 ≤ 86400000000000 ∧ w.progress t ≤ 10 ^ 9 ∧
    (w.progress t = 10 ^ 9 ↔ w.length ≤ t - w.start) ∧ (t ≤ u → w.progress t ≤ w.progress u)

/-- R189: an image of version 1 with clear flags: each field at its bytes, the check value over the bytes before it, and
12 + 8n bytes for n transitions; it is read back as the rule set it was laid out from (R143, R144). -/
def Obligations.RuleSetImageRoundTrip : Prop :=
  ∀ (serial : BitVec 32) (xs : List Transition) (l : Loader), xs.length ≤ 64 →
    (∀ x ∈ xs, x.skipped = false ∧ 1 ≤ x.zone ∧ x.zone ≤ 15 ∧ -720 ≤ x.offset ∧ x.offset ≤ 840 ∧
      x.instant < 2 ^ 40) →
    (xs.Pairwise fun x y => x.zone < y.zone ∨ x.zone = y.zone ∧ x.instant < y.instant) →
    (ruleImage serial xs).length = 12 + 8 * xs.length ∧
    (ruleImage serial xs).take 8 =
      [1, BitVec.ofNat 8 xs.length] ++ beBytes 4 serial.toNat ++ [0, 0] ∧
    (∀ i x, xs[i]? = some x →
      ((ruleImage serial xs).drop (8 + 8 * i)).take 8 =
        [BitVec.ofNat 8 x.zone] ++ beBytes 2 (BitVec.ofInt 16 x.offset).toNat ++ beBytes 5 x.instant) ∧
    (ruleImage serial xs).drop (8 + 8 * xs.length) =
      beBytes 4 (crc32 ((ruleImage serial xs).take (8 + 8 * xs.length))).toNat ∧
    verdict { l with length := 12 + 8 * xs.length, serial := serial, buffer := ruleImage serial xs } =
      .ok { serial := serial, transitions := xs }

/-- R3, R14, R149, R150, R183: the fields of the scale word and of the return sub-segments at their bits (the first
bit is the most significant), with the report codes of R112 and R151 (READY by the next armed group, the rehearsal group
included) and the role outcomes of R14 and R152; R146, R147, R159: the bus clocks in which the device drives them, and the
lines of a device that has no power or is held in reset (that a frame which REFCLK has stopped is held on the lines is the
model's choice, log 43, and that no card drives a frame that has been cut, log 48). -/
def Obligations.BusFields : Prop :=
  ∀ (s : State) (p : Pos),
    s.scaleWord.extractLsb' 120 40 = BitVec.ofNat 40 (s.time.t.getD 0) ∧
    s.scaleWord.extractLsb' 110 10 = BitVec.ofNat 10 s.time.frame ∧
    s.scaleWord.extractLsb' 108 2 = (if s.time.t = none then 0 else if s.scale.d = none then 1 else 2) ∧
    s.scaleWord.getLsbD 107 = s.scale.provisional ∧
    s.scaleWord.extractLsb' 105 2 =
      (match s.time.holder with
        | none => 0
        | some .a => 1
        | some .b => 2) ∧
    s.scaleWord.extractLsb' 103 2 =
      (match s.time.holder.map fun c => (s.time.tracker c).mode with
        | none => 0
        | some .seeking => 1
        | some .aligned => 2
        | some .flywheel => 3) ∧
    s.scaleWord.extractLsb' 95 8 = BitVec.ofNat 8 (s.scale.d.getD 0) ∧
    s.scaleWord.extractLsb' 87 8 = s.scale.g.setWidth 8 ∧
    s.scaleWord.extractLsb' 63 24 = BitVec.ofNat 24 s.labels.day ∧
    s.scaleWord.extractLsb' 46 17 = BitVec.ofNat 17 s.labels.second ∧
    s.scaleWord.getLsbD 45 = s.labels.inserting ∧ s.scaleWord.getLsbD 44 = s.labels.kinds.insert ∧
    s.scaleWord.getLsbD 43 = s.labels.kinds.delete ∧ s.scaleWord.getLsbD 42 = s.labels.kinds.baseline ∧
    s.scaleWord.getLsbD 41 = s.labels.kinds.shift ∧
    s.scaleWord.extractLsb' 37 4 = BitVec.ofNat 4 s.labels.tag ∧
    s.scaleWord.extractLsb' 21 16 = BitVec.ofNat 16 s.labels.countdown ∧
    s.scaleWord.getLsbD 20 = s.labels.rehearsal ∧ s.scaleWord.getLsbD 19 = decide (980 ≤ s.time.frame) ∧
    s.scaleWord.extractLsb' 0 19 = 0 ∧
    (let report := (s.returnSegment p).extractLsb' 92 4;
      let armed := s.scale.groups.map (fun g => (g.affected, g.tag)) ++
        (match s.rehearsal.phase, s.rehearsal.affected, s.rehearsal.tag with
        | .armed, some a, some k => [(a, k)]
        | .called, some a, some k => [(a, k)]
        | _, _, _ => []);
      match (s.pos p).state with
      | .empty => report = 0
      | .joining => report = 1
      | .inStep => (armed = [] → report = 2) ∧
        ∀ g ∈ armed, (∀ x ∈ armed, x ≠ g → g.1 < x.1) →
          report = if (s.pos p).ready = g.2 ∧ g.2 ≠ 0 then 3 else 2
      | .lagging => report = 4
      | .dropped => report = 5) ∧
    (let outcome := (s.returnSegment p).extractLsb' 90 2;
      match posCtl p with
      | none => outcome = 0
      | some c => if s.occupied p = false then outcome = 0
        else match (s.pos p).role with
          | .none => outcome = 0
          | .standby => outcome = 1
          | .lead => (s.time.holder = some c → outcome = 2) ∧ (s.time.holder = some (otherCtl c) → outcome = 3)) ∧
    (s.returnSegment p).extractLsb' 79 11 = BitVec.ofInt 11 (s.zones.get (s.pos p).zone) ∧
    (s.returnSegment p).extractLsb' 71 8 = BitVec.ofNat 8 (s.labels.pairs.get p).seconds ∧
    (s.returnSegment p).extractLsb' 41 30 = BitVec.ofNat 30 (s.labels.pairs.get p).nanos ∧
    (s.occupied p = true → s.time.frame < 980 →
      (s.returnSegment p).extractLsb' 33 8 = (s.lane p).outByte.1 ∧
      (s.returnSegment p).getLsbD 32 = (s.lane p).offer ∧
      (s.returnSegment p).getLsbD 31 = (s.lane p).outByte.2 ∧
      (s.returnSegment p).getLsbD 30 = (s.lane p).take) ∧
    (s.occupied p = false ∨ 980 ≤ s.time.frame → (s.returnSegment p).extractLsb' 30 11 = 0) ∧
    (s.returnSegment p).extractLsb' 0 30 = 0 ∧
    (s.pins.powered = true → s.pins.rstn = true → ∀ c,
      (c < 160 → s.drives c = some (s.shown.word.getMsbD c)) ∧
      (c < 96 → s.drives (160 + 96 * p.val + c) = some ((s.shown.segments.get p).getMsbD c)) ∧
      (1312 ≤ c → s.drives c = none) ∧ s.bfrm c = decide (c = 0)) ∧
    (s.pins.powered = false ∨ s.pins.rstn = false → ∀ c segs,
      s.drives c = none ∧ s.bdat segs c = true ∧ s.bfrm c = false ∧ s.bclk = false)
end

