-- ==== Sys2Proof/Laws/State.lean ====
section
/-! SUPPORT. What each rewriting of the state leaves in each field, and the tables of fixed length. -/

namespace Sys2Proof

set_option Elab.async false

variable {α β : Type} {n : Nat}

theorem Tab.ext_items {t u : Tab α n} (h : t.items = u.items) : t = u := by
  cases t; cases u; cases h; rfl

theorem Tab.get_eq_getElem (t : Tab α n) (i : Fin n) : t.get i = t.items[i.val]'(by rw [t.len]; exact i.isLt) := rfl

@[simp] theorem Tab.get_put_self (t : Tab α n) (i : Fin n) (x : α) : (t.put i x).get i = x := by
  simp [Tab.get_eq_getElem, Tab.put]

theorem Tab.get_put_ne (t : Tab α n) {i j : Fin n} (x : α) (h : i ≠ j) : (t.put i x).get j = t.get j := by
  have : i.val ≠ j.val := fun e => h (Fin.ext e)
  simp [Tab.get_eq_getElem, Tab.put, this]

theorem Tab.get_put (t : Tab α n) (i j : Fin n) (x : α) : (t.put i x).get j = if i = j then x else t.get j := by
  split
  · next h => subst h; simp
  · next h => exact Tab.get_put_ne t x h

@[simp] theorem Tab.get_fill (x : α) (i : Fin n) : (Tab.fill n x).get i = x := by
  simp [Tab.get_eq_getElem, Tab.fill]

@[simp] theorem Tab.get_build (f : Fin n → α) (i : Fin n) : (Tab.build n f).get i = f i := by
  simp [Tab.get_eq_getElem, Tab.build]

@[simp] theorem Tab.get_map (f : α → β) (t : Tab α n) (i : Fin n) : (t.map f).get i = f (t.get i) := by
  simp [Tab.get_eq_getElem, Tab.map]

/-- Tables with the same content are equal. -/
theorem Tab.ext_get {t u : Tab α n} (h : ∀ i, t.get i = u.get i) : t = u := by
  apply Tab.ext_items
  apply List.ext_getElem (by rw [t.len, u.len])
  intro k hk _
  exact h ⟨k, by rw [← t.len]; exact hk⟩

@[simp] theorem Tab.put_get (t : Tab α n) (i : Fin n) : t.put i (t.get i) = t := by
  apply Tab.ext_get
  intro j
  rw [Tab.get_put]
  split
  · next h => rw [h]
  · rfl

namespace Machine

variable (s : State)

@[simp] theorem State.setPos_pins (p : Pos) (x : Position) : (s.setPos p x).pins = s.pins := rfl
@[simp] theorem State.setPos_time (p : Pos) (x : Position) : (s.setPos p x).time = s.time := rfl
@[simp] theorem State.setPos_labels (p : Pos) (x : Position) : (s.setPos p x).labels = s.labels := rfl
@[simp] theorem State.setPos_sources (p : Pos) (x : Position) : (s.setPos p x).sources = s.sources := rfl
@[simp] theorem State.setPos_sched (p : Pos) (x : Position) : (s.setPos p x).sched = s.sched := rfl
@[simp] theorem State.setPos_scale (p : Pos) (x : Position) : (s.setPos p x).scale = s.scale := rfl
@[simp] theorem State.setPos_rehearsal (p : Pos) (x : Position) : (s.setPos p x).rehearsal = s.rehearsal := rfl
@[simp] theorem State.setPos_roster (p : Pos) (x : Position) : (s.setPos p x).roster = s.roster.put p x := rfl
@[simp] theorem State.setPos_zones (p : Pos) (x : Position) : (s.setPos p x).zones = s.zones := rfl
@[simp] theorem State.setPos_rules (p : Pos) (x : Position) : (s.setPos p x).rules = s.rules := rfl
@[simp] theorem State.setPos_loader (p : Pos) (x : Position) : (s.setPos p x).loader = s.loader := rfl
@[simp] theorem State.setPos_lanes (p : Pos) (x : Position) : (s.setPos p x).lanes = s.lanes := rfl
@[simp] theorem State.setPos_settings (p : Pos) (x : Position) : (s.setPos p x).settings = s.settings := rfl
@[simp] theorem State.setPos_store (p : Pos) (x : Position) : (s.setPos p x).store = s.store := rfl
@[simp] theorem State.setPos_bus (p : Pos) (x : Position) : (s.setPos p x).bus = s.bus := rfl
@[simp] theorem State.setPos_moment (p : Pos) (x : Position) : (s.setPos p x).moment = s.moment := rfl
@[simp] theorem State.setPos_pending (p : Pos) (x : Position) : (s.setPos p x).pending = s.pending := rfl
@[simp] theorem State.setLane_pins (p : Pos) (l : Lane) : (s.setLane p l).pins = s.pins := rfl
@[simp] theorem State.setLane_time (p : Pos) (l : Lane) : (s.setLane p l).time = s.time := rfl
@[simp] theorem State.setLane_labels (p : Pos) (l : Lane) : (s.setLane p l).labels = s.labels := rfl
@[simp] theorem State.setLane_sources (p : Pos) (l : Lane) : (s.setLane p l).sources = s.sources := rfl
@[simp] theorem State.setLane_sched (p : Pos) (l : Lane) : (s.setLane p l).sched = s.sched := rfl
@[simp] theorem State.setLane_scale (p : Pos) (l : Lane) : (s.setLane p l).scale = s.scale := rfl
@[simp] theorem State.setLane_rehearsal (p : Pos) (l : Lane) : (s.setLane p l).rehearsal = s.rehearsal := rfl
@[simp] theorem State.setLane_roster (p : Pos) (l : Lane) : (s.setLane p l).roster = s.roster := rfl
@[simp] theorem State.setLane_zones (p : Pos) (l : Lane) : (s.setLane p l).zones = s.zones := rfl
@[simp] theorem State.setLane_rules (p : Pos) (l : Lane) : (s.setLane p l).rules = s.rules := rfl
@[simp] theorem State.setLane_loader (p : Pos) (l : Lane) : (s.setLane p l).loader = s.loader := rfl
@[simp] theorem State.setLane_lanes (p : Pos) (l : Lane) : (s.setLane p l).lanes = s.lanes.put p l := rfl
@[simp] theorem State.setLane_settings (p : Pos) (l : Lane) : (s.setLane p l).settings = s.settings := rfl
@[simp] theorem State.setLane_store (p : Pos) (l : Lane) : (s.setLane p l).store = s.store := rfl
@[simp] theorem State.setLane_bus (p : Pos) (l : Lane) : (s.setLane p l).bus = s.bus := rfl
@[simp] theorem State.setLane_moment (p : Pos) (l : Lane) : (s.setLane p l).moment = s.moment := rfl
@[simp] theorem State.setLane_pending (p : Pos) (l : Lane) : (s.setLane p l).pending = s.pending := rfl
@[simp] theorem State.setSource_pins (i : Fin 16) (e : Source) : (s.setSource i e).pins = s.pins := rfl
@[simp] theorem State.setSource_time (i : Fin 16) (e : Source) : (s.setSource i e).time = s.time := rfl
@[simp] theorem State.setSource_labels (i : Fin 16) (e : Source) : (s.setSource i e).labels = s.labels := rfl
@[simp] theorem State.setSource_sources (i : Fin 16) (e : Source) : (s.setSource i e).sources = s.sources.put i e := rfl
@[simp] theorem State.setSource_sched (i : Fin 16) (e : Source) : (s.setSource i e).sched = s.sched := rfl
@[simp] theorem State.setSource_scale (i : Fin 16) (e : Source) : (s.setSource i e).scale = s.scale := rfl
@[simp] theorem State.setSource_rehearsal (i : Fin 16) (e : Source) : (s.setSource i e).rehearsal = s.rehearsal := rfl
@[simp] theorem State.setSource_roster (i : Fin 16) (e : Source) : (s.setSource i e).roster = s.roster := rfl
@[simp] theorem State.setSource_zones (i : Fin 16) (e : Source) : (s.setSource i e).zones = s.zones := rfl
@[simp] theorem State.setSource_rules (i : Fin 16) (e : Source) : (s.setSource i e).rules = s.rules := rfl
@[simp] theorem State.setSource_loader (i : Fin 16) (e : Source) : (s.setSource i e).loader = s.loader := rfl
@[simp] theorem State.setSource_lanes (i : Fin 16) (e : Source) : (s.setSource i e).lanes = s.lanes := rfl
@[simp] theorem State.setSource_settings (i : Fin 16) (e : Source) : (s.setSource i e).settings = s.settings := rfl
@[simp] theorem State.setSource_store (i : Fin 16) (e : Source) : (s.setSource i e).store = s.store := rfl
@[simp] theorem State.setSource_bus (i : Fin 16) (e : Source) : (s.setSource i e).bus = s.bus := rfl
@[simp] theorem State.setSource_moment (i : Fin 16) (e : Source) : (s.setSource i e).moment = s.moment := rfl
@[simp] theorem State.setSource_pending (i : Fin 16) (e : Source) : (s.setSource i e).pending = s.pending := rfl
@[simp] theorem State.setTime_pins (b : TimeBase) : (s.setTime b).pins = s.pins := rfl
@[simp] theorem State.setTime_time (b : TimeBase) : (s.setTime b).time = b := rfl
@[simp] theorem State.setTime_labels (b : TimeBase) : (s.setTime b).labels = s.labels := rfl
@[simp] theorem State.setTime_sources (b : TimeBase) : (s.setTime b).sources = s.sources := rfl
@[simp] theorem State.setTime_sched (b : TimeBase) : (s.setTime b).sched = s.sched := rfl
@[simp] theorem State.setTime_scale (b : TimeBase) : (s.setTime b).scale = s.scale := rfl
@[simp] theorem State.setTime_rehearsal (b : TimeBase) : (s.setTime b).rehearsal = s.rehearsal := rfl
@[simp] theorem State.setTime_roster (b : TimeBase) : (s.setTime b).roster = s.roster := rfl
@[simp] theorem State.setTime_zones (b : TimeBase) : (s.setTime b).zones = s.zones := rfl
@[simp] theorem State.setTime_rules (b : TimeBase) : (s.setTime b).rules = s.rules := rfl
@[simp] theorem State.setTime_loader (b : TimeBase) : (s.setTime b).loader = s.loader := rfl
@[simp] theorem State.setTime_lanes (b : TimeBase) : (s.setTime b).lanes = s.lanes := rfl
@[simp] theorem State.setTime_settings (b : TimeBase) : (s.setTime b).settings = s.settings := rfl
@[simp] theorem State.setTime_store (b : TimeBase) : (s.setTime b).store = s.store := rfl
@[simp] theorem State.setTime_bus (b : TimeBase) : (s.setTime b).bus = s.bus := rfl
@[simp] theorem State.setTime_moment (b : TimeBase) : (s.setTime b).moment = s.moment := rfl
@[simp] theorem State.setTime_pending (b : TimeBase) : (s.setTime b).pending = s.pending := rfl
@[simp] theorem State.setSched_pins (c : Schedule) : (s.setSched c).pins = s.pins := rfl
@[simp] theorem State.setSched_time (c : Schedule) : (s.setSched c).time = s.time := rfl
@[simp] theorem State.setSched_labels (c : Schedule) : (s.setSched c).labels = s.labels := rfl
@[simp] theorem State.setSched_sources (c : Schedule) : (s.setSched c).sources = s.sources := rfl
@[simp] theorem State.setSched_sched (c : Schedule) : (s.setSched c).sched = c := rfl
@[simp] theorem State.setSched_scale (c : Schedule) : (s.setSched c).scale = s.scale := rfl
@[simp] theorem State.setSched_rehearsal (c : Schedule) : (s.setSched c).rehearsal = s.rehearsal := rfl
@[simp] theorem State.setSched_roster (c : Schedule) : (s.setSched c).roster = s.roster := rfl
@[simp] theorem State.setSched_zones (c : Schedule) : (s.setSched c).zones = s.zones := rfl
@[simp] theorem State.setSched_rules (c : Schedule) : (s.setSched c).rules = s.rules := rfl
@[simp] theorem State.setSched_loader (c : Schedule) : (s.setSched c).loader = s.loader := rfl
@[simp] theorem State.setSched_lanes (c : Schedule) : (s.setSched c).lanes = s.lanes := rfl
@[simp] theorem State.setSched_settings (c : Schedule) : (s.setSched c).settings = s.settings := rfl
@[simp] theorem State.setSched_store (c : Schedule) : (s.setSched c).store = s.store := rfl
@[simp] theorem State.setSched_bus (c : Schedule) : (s.setSched c).bus = s.bus := rfl
@[simp] theorem State.setSched_moment (c : Schedule) : (s.setSched c).moment = s.moment := rfl
@[simp] theorem State.setSched_pending (c : Schedule) : (s.setSched c).pending = s.pending := rfl
@[simp] theorem State.setScale_pins (c : Scale) : (s.setScale c).pins = s.pins := rfl
@[simp] theorem State.setScale_time (c : Scale) : (s.setScale c).time = s.time := rfl
@[simp] theorem State.setScale_labels (c : Scale) : (s.setScale c).labels = s.labels := rfl
@[simp] theorem State.setScale_sources (c : Scale) : (s.setScale c).sources = s.sources := rfl
@[simp] theorem State.setScale_sched (c : Scale) : (s.setScale c).sched = s.sched := rfl
@[simp] theorem State.setScale_scale (c : Scale) : (s.setScale c).scale = c := rfl
@[simp] theorem State.setScale_rehearsal (c : Scale) : (s.setScale c).rehearsal = s.rehearsal := rfl
@[simp] theorem State.setScale_roster (c : Scale) : (s.setScale c).roster = s.roster := rfl
@[simp] theorem State.setScale_zones (c : Scale) : (s.setScale c).zones = s.zones := rfl
@[simp] theorem State.setScale_rules (c : Scale) : (s.setScale c).rules = s.rules := rfl
@[simp] theorem State.setScale_loader (c : Scale) : (s.setScale c).loader = s.loader := rfl
@[simp] theorem State.setScale_lanes (c : Scale) : (s.setScale c).lanes = s.lanes := rfl
@[simp] theorem State.setScale_settings (c : Scale) : (s.setScale c).settings = s.settings := rfl
@[simp] theorem State.setScale_store (c : Scale) : (s.setScale c).store = s.store := rfl
@[simp] theorem State.setScale_bus (c : Scale) : (s.setScale c).bus = s.bus := rfl
@[simp] theorem State.setScale_moment (c : Scale) : (s.setScale c).moment = s.moment := rfl
@[simp] theorem State.setScale_pending (c : Scale) : (s.setScale c).pending = s.pending := rfl
@[simp] theorem State.setRehearsal_pins (r : Rehearsal) : (s.setRehearsal r).pins = s.pins := rfl
@[simp] theorem State.setRehearsal_time (r : Rehearsal) : (s.setRehearsal r).time = s.time := rfl
@[simp] theorem State.setRehearsal_labels (r : Rehearsal) : (s.setRehearsal r).labels = s.labels := rfl
@[simp] theorem State.setRehearsal_sources (r : Rehearsal) : (s.setRehearsal r).sources = s.sources := rfl
@[simp] theorem State.setRehearsal_sched (r : Rehearsal) : (s.setRehearsal r).sched = s.sched := rfl
@[simp] theorem State.setRehearsal_scale (r : Rehearsal) : (s.setRehearsal r).scale = s.scale := rfl
@[simp] theorem State.setRehearsal_rehearsal (r : Rehearsal) : (s.setRehearsal r).rehearsal = r := rfl
@[simp] theorem State.setRehearsal_roster (r : Rehearsal) : (s.setRehearsal r).roster = s.roster := rfl
@[simp] theorem State.setRehearsal_zones (r : Rehearsal) : (s.setRehearsal r).zones = s.zones := rfl
@[simp] theorem State.setRehearsal_rules (r : Rehearsal) : (s.setRehearsal r).rules = s.rules := rfl
@[simp] theorem State.setRehearsal_loader (r : Rehearsal) : (s.setRehearsal r).loader = s.loader := rfl
@[simp] theorem State.setRehearsal_lanes (r : Rehearsal) : (s.setRehearsal r).lanes = s.lanes := rfl
@[simp] theorem State.setRehearsal_settings (r : Rehearsal) : (s.setRehearsal r).settings = s.settings := rfl
@[simp] theorem State.setRehearsal_store (r : Rehearsal) : (s.setRehearsal r).store = s.store := rfl
@[simp] theorem State.setRehearsal_bus (r : Rehearsal) : (s.setRehearsal r).bus = s.bus := rfl
@[simp] theorem State.setRehearsal_moment (r : Rehearsal) : (s.setRehearsal r).moment = s.moment := rfl
@[simp] theorem State.setRehearsal_pending (r : Rehearsal) : (s.setRehearsal r).pending = s.pending := rfl
@[simp] theorem State.setLoader_pins (l : Loader) : (s.setLoader l).pins = s.pins := rfl
@[simp] theorem State.setLoader_time (l : Loader) : (s.setLoader l).time = s.time := rfl
@[simp] theorem State.setLoader_labels (l : Loader) : (s.setLoader l).labels = s.labels := rfl
@[simp] theorem State.setLoader_sources (l : Loader) : (s.setLoader l).sources = s.sources := rfl
@[simp] theorem State.setLoader_sched (l : Loader) : (s.setLoader l).sched = s.sched := rfl
@[simp] theorem State.setLoader_scale (l : Loader) : (s.setLoader l).scale = s.scale := rfl
@[simp] theorem State.setLoader_rehearsal (l : Loader) : (s.setLoader l).rehearsal = s.rehearsal := rfl
@[simp] theorem State.setLoader_roster (l : Loader) : (s.setLoader l).roster = s.roster := rfl
@[simp] theorem State.setLoader_zones (l : Loader) : (s.setLoader l).zones = s.zones := rfl
@[simp] theorem State.setLoader_rules (l : Loader) : (s.setLoader l).rules = s.rules := rfl
@[simp] theorem State.setLoader_loader (l : Loader) : (s.setLoader l).loader = l := rfl
@[simp] theorem State.setLoader_lanes (l : Loader) : (s.setLoader l).lanes = s.lanes := rfl
@[simp] theorem State.setLoader_settings (l : Loader) : (s.setLoader l).settings = s.settings := rfl
@[simp] theorem State.setLoader_store (l : Loader) : (s.setLoader l).store = s.store := rfl
@[simp] theorem State.setLoader_bus (l : Loader) : (s.setLoader l).bus = s.bus := rfl
@[simp] theorem State.setLoader_moment (l : Loader) : (s.setLoader l).moment = s.moment := rfl
@[simp] theorem State.setLoader_pending (l : Loader) : (s.setLoader l).pending = s.pending := rfl
@[simp] theorem State.setRules_pins (r : RuleStore) : (s.setRules r).pins = s.pins := rfl
@[simp] theorem State.setRules_time (r : RuleStore) : (s.setRules r).time = s.time := rfl
@[simp] theorem State.setRules_labels (r : RuleStore) : (s.setRules r).labels = s.labels := rfl
@[simp] theorem State.setRules_sources (r : RuleStore) : (s.setRules r).sources = s.sources := rfl
@[simp] theorem State.setRules_sched (r : RuleStore) : (s.setRules r).sched = s.sched := rfl
@[simp] theorem State.setRules_scale (r : RuleStore) : (s.setRules r).scale = s.scale := rfl
@[simp] theorem State.setRules_rehearsal (r : RuleStore) : (s.setRules r).rehearsal = s.rehearsal := rfl
@[simp] theorem State.setRules_roster (r : RuleStore) : (s.setRules r).roster = s.roster := rfl
@[simp] theorem State.setRules_zones (r : RuleStore) : (s.setRules r).zones = s.zones := rfl
@[simp] theorem State.setRules_rules (r : RuleStore) : (s.setRules r).rules = r := rfl
@[simp] theorem State.setRules_loader (r : RuleStore) : (s.setRules r).loader = s.loader := rfl
@[simp] theorem State.setRules_lanes (r : RuleStore) : (s.setRules r).lanes = s.lanes := rfl
@[simp] theorem State.setRules_settings (r : RuleStore) : (s.setRules r).settings = s.settings := rfl
@[simp] theorem State.setRules_store (r : RuleStore) : (s.setRules r).store = s.store := rfl
@[simp] theorem State.setRules_bus (r : RuleStore) : (s.setRules r).bus = s.bus := rfl
@[simp] theorem State.setRules_moment (r : RuleStore) : (s.setRules r).moment = s.moment := rfl
@[simp] theorem State.setRules_pending (r : RuleStore) : (s.setRules r).pending = s.pending := rfl
@[simp] theorem State.setPins_pins (p : Pins) : (s.setPins p).pins = p := rfl
@[simp] theorem State.setPins_time (p : Pins) : (s.setPins p).time = s.time := rfl
@[simp] theorem State.setPins_labels (p : Pins) : (s.setPins p).labels = s.labels := rfl
@[simp] theorem State.setPins_sources (p : Pins) : (s.setPins p).sources = s.sources := rfl
@[simp] theorem State.setPins_sched (p : Pins) : (s.setPins p).sched = s.sched := rfl
@[simp] theorem State.setPins_scale (p : Pins) : (s.setPins p).scale = s.scale := rfl
@[simp] theorem State.setPins_rehearsal (p : Pins) : (s.setPins p).rehearsal = s.rehearsal := rfl
@[simp] theorem State.setPins_roster (p : Pins) : (s.setPins p).roster = s.roster := rfl
@[simp] theorem State.setPins_zones (p : Pins) : (s.setPins p).zones = s.zones := rfl
@[simp] theorem State.setPins_rules (p : Pins) : (s.setPins p).rules = s.rules := rfl
@[simp] theorem State.setPins_loader (p : Pins) : (s.setPins p).loader = s.loader := rfl
@[simp] theorem State.setPins_lanes (p : Pins) : (s.setPins p).lanes = s.lanes := rfl
@[simp] theorem State.setPins_settings (p : Pins) : (s.setPins p).settings = s.settings := rfl
@[simp] theorem State.setPins_store (p : Pins) : (s.setPins p).store = s.store := rfl
@[simp] theorem State.setPins_bus (p : Pins) : (s.setPins p).bus = s.bus := rfl
@[simp] theorem State.setPins_moment (p : Pins) : (s.setPins p).moment = s.moment := rfl
@[simp] theorem State.setPins_pending (p : Pins) : (s.setPins p).pending = s.pending := rfl
@[simp] theorem State.setSettings_pins (c : Settings) : (s.setSettings c).pins = s.pins := rfl
@[simp] theorem State.setSettings_time (c : Settings) : (s.setSettings c).time = s.time := rfl
@[simp] theorem State.setSettings_labels (c : Settings) : (s.setSettings c).labels = s.labels := rfl
@[simp] theorem State.setSettings_sources (c : Settings) : (s.setSettings c).sources = s.sources := rfl
@[simp] theorem State.setSettings_sched (c : Settings) : (s.setSettings c).sched = s.sched := rfl
@[simp] theorem State.setSettings_scale (c : Settings) : (s.setSettings c).scale = s.scale := rfl
@[simp] theorem State.setSettings_rehearsal (c : Settings) : (s.setSettings c).rehearsal = s.rehearsal := rfl
@[simp] theorem State.setSettings_roster (c : Settings) : (s.setSettings c).roster = s.roster := rfl
@[simp] theorem State.setSettings_zones (c : Settings) : (s.setSettings c).zones = s.zones := rfl
@[simp] theorem State.setSettings_rules (c : Settings) : (s.setSettings c).rules = s.rules := rfl
@[simp] theorem State.setSettings_loader (c : Settings) : (s.setSettings c).loader = s.loader := rfl
@[simp] theorem State.setSettings_lanes (c : Settings) : (s.setSettings c).lanes = s.lanes := rfl
@[simp] theorem State.setSettings_settings (c : Settings) : (s.setSettings c).settings = c := rfl
@[simp] theorem State.setSettings_store (c : Settings) : (s.setSettings c).store = s.store := rfl
@[simp] theorem State.setSettings_bus (c : Settings) : (s.setSettings c).bus = s.bus := rfl
@[simp] theorem State.setSettings_moment (c : Settings) : (s.setSettings c).moment = s.moment := rfl
@[simp] theorem State.setSettings_pending (c : Settings) : (s.setSettings c).pending = s.pending := rfl
@[simp] theorem State.setLabels_pins (l : Labels) : (s.setLabels l).pins = s.pins := rfl
@[simp] theorem State.setLabels_time (l : Labels) : (s.setLabels l).time = s.time := rfl
@[simp] theorem State.setLabels_labels (l : Labels) : (s.setLabels l).labels = l := rfl
@[simp] theorem State.setLabels_sources (l : Labels) : (s.setLabels l).sources = s.sources := rfl
@[simp] theorem State.setLabels_sched (l : Labels) : (s.setLabels l).sched = s.sched := rfl
@[simp] theorem State.setLabels_scale (l : Labels) : (s.setLabels l).scale = s.scale := rfl
@[simp] theorem State.setLabels_rehearsal (l : Labels) : (s.setLabels l).rehearsal = s.rehearsal := rfl
@[simp] theorem State.setLabels_roster (l : Labels) : (s.setLabels l).roster = s.roster := rfl
@[simp] theorem State.setLabels_zones (l : Labels) : (s.setLabels l).zones = s.zones := rfl
@[simp] theorem State.setLabels_rules (l : Labels) : (s.setLabels l).rules = s.rules := rfl
@[simp] theorem State.setLabels_loader (l : Labels) : (s.setLabels l).loader = s.loader := rfl
@[simp] theorem State.setLabels_lanes (l : Labels) : (s.setLabels l).lanes = s.lanes := rfl
@[simp] theorem State.setLabels_settings (l : Labels) : (s.setLabels l).settings = s.settings := rfl
@[simp] theorem State.setLabels_store (l : Labels) : (s.setLabels l).store = s.store := rfl
@[simp] theorem State.setLabels_bus (l : Labels) : (s.setLabels l).bus = s.bus := rfl
@[simp] theorem State.setLabels_moment (l : Labels) : (s.setLabels l).moment = s.moment := rfl
@[simp] theorem State.setLabels_pending (l : Labels) : (s.setLabels l).pending = s.pending := rfl
@[simp] theorem State.setStore_pins (c : Store) : (s.setStore c).pins = s.pins := rfl
@[simp] theorem State.setStore_time (c : Store) : (s.setStore c).time = s.time := rfl
@[simp] theorem State.setStore_labels (c : Store) : (s.setStore c).labels = s.labels := rfl
@[simp] theorem State.setStore_sources (c : Store) : (s.setStore c).sources = s.sources := rfl
@[simp] theorem State.setStore_sched (c : Store) : (s.setStore c).sched = s.sched := rfl
@[simp] theorem State.setStore_scale (c : Store) : (s.setStore c).scale = s.scale := rfl
@[simp] theorem State.setStore_rehearsal (c : Store) : (s.setStore c).rehearsal = s.rehearsal := rfl
@[simp] theorem State.setStore_roster (c : Store) : (s.setStore c).roster = s.roster := rfl
@[simp] theorem State.setStore_zones (c : Store) : (s.setStore c).zones = s.zones := rfl
@[simp] theorem State.setStore_rules (c : Store) : (s.setStore c).rules = s.rules := rfl
@[simp] theorem State.setStore_loader (c : Store) : (s.setStore c).loader = s.loader := rfl
@[simp] theorem State.setStore_lanes (c : Store) : (s.setStore c).lanes = s.lanes := rfl
@[simp] theorem State.setStore_settings (c : Store) : (s.setStore c).settings = s.settings := rfl
@[simp] theorem State.setStore_store (c : Store) : (s.setStore c).store = c := rfl
@[simp] theorem State.setStore_bus (c : Store) : (s.setStore c).bus = s.bus := rfl
@[simp] theorem State.setStore_moment (c : Store) : (s.setStore c).moment = s.moment := rfl
@[simp] theorem State.setStore_pending (c : Store) : (s.setStore c).pending = s.pending := rfl
@[simp] theorem State.setZones_pins (z : Tab Int 16) : (s.setZones z).pins = s.pins := rfl
@[simp] theorem State.setZones_time (z : Tab Int 16) : (s.setZones z).time = s.time := rfl
@[simp] theorem State.setZones_labels (z : Tab Int 16) : (s.setZones z).labels = s.labels := rfl
@[simp] theorem State.setZones_sources (z : Tab Int 16) : (s.setZones z).sources = s.sources := rfl
@[simp] theorem State.setZones_sched (z : Tab Int 16) : (s.setZones z).sched = s.sched := rfl
@[simp] theorem State.setZones_scale (z : Tab Int 16) : (s.setZones z).scale = s.scale := rfl
@[simp] theorem State.setZones_rehearsal (z : Tab Int 16) : (s.setZones z).rehearsal = s.rehearsal := rfl
@[simp] theorem State.setZones_roster (z : Tab Int 16) : (s.setZones z).roster = s.roster := rfl
@[simp] theorem State.setZones_zones (z : Tab Int 16) : (s.setZones z).zones = z := rfl
@[simp] theorem State.setZones_rules (z : Tab Int 16) : (s.setZones z).rules = s.rules := rfl
@[simp] theorem State.setZones_loader (z : Tab Int 16) : (s.setZones z).loader = s.loader := rfl
@[simp] theorem State.setZones_lanes (z : Tab Int 16) : (s.setZones z).lanes = s.lanes := rfl
@[simp] theorem State.setZones_settings (z : Tab Int 16) : (s.setZones z).settings = s.settings := rfl
@[simp] theorem State.setZones_store (z : Tab Int 16) : (s.setZones z).store = s.store := rfl
@[simp] theorem State.setZones_bus (z : Tab Int 16) : (s.setZones z).bus = s.bus := rfl
@[simp] theorem State.setZones_moment (z : Tab Int 16) : (s.setZones z).moment = s.moment := rfl
@[simp] theorem State.setZones_pending (z : Tab Int 16) : (s.setZones z).pending = s.pending := rfl
@[simp] theorem State.setRoster_pins (r : Tab Position 12) : (s.setRoster r).pins = s.pins := rfl
@[simp] theorem State.setRoster_time (r : Tab Position 12) : (s.setRoster r).time = s.time := rfl
@[simp] theorem State.setRoster_labels (r : Tab Position 12) : (s.setRoster r).labels = s.labels := rfl
@[simp] theorem State.setRoster_sources (r : Tab Position 12) : (s.setRoster r).sources = s.sources := rfl
@[simp] theorem State.setRoster_sched (r : Tab Position 12) : (s.setRoster r).sched = s.sched := rfl
@[simp] theorem State.setRoster_scale (r : Tab Position 12) : (s.setRoster r).scale = s.scale := rfl
@[simp] theorem State.setRoster_rehearsal (r : Tab Position 12) : (s.setRoster r).rehearsal = s.rehearsal := rfl
@[simp] theorem State.setRoster_roster (r : Tab Position 12) : (s.setRoster r).roster = r := rfl
@[simp] theorem State.setRoster_zones (r : Tab Position 12) : (s.setRoster r).zones = s.zones := rfl
@[simp] theorem State.setRoster_rules (r : Tab Position 12) : (s.setRoster r).rules = s.rules := rfl
@[simp] theorem State.setRoster_loader (r : Tab Position 12) : (s.setRoster r).loader = s.loader := rfl
@[simp] theorem State.setRoster_lanes (r : Tab Position 12) : (s.setRoster r).lanes = s.lanes := rfl
@[simp] theorem State.setRoster_settings (r : Tab Position 12) : (s.setRoster r).settings = s.settings := rfl
@[simp] theorem State.setRoster_store (r : Tab Position 12) : (s.setRoster r).store = s.store := rfl
@[simp] theorem State.setRoster_bus (r : Tab Position 12) : (s.setRoster r).bus = s.bus := rfl
@[simp] theorem State.setRoster_moment (r : Tab Position 12) : (s.setRoster r).moment = s.moment := rfl
@[simp] theorem State.setRoster_pending (r : Tab Position 12) : (s.setRoster r).pending = s.pending := rfl
@[simp] theorem State.setLanes_pins (l : Tab Lane 12) : (s.setLanes l).pins = s.pins := rfl
@[simp] theorem State.setLanes_time (l : Tab Lane 12) : (s.setLanes l).time = s.time := rfl
@[simp] theorem State.setLanes_labels (l : Tab Lane 12) : (s.setLanes l).labels = s.labels := rfl
@[simp] theorem State.setLanes_sources (l : Tab Lane 12) : (s.setLanes l).sources = s.sources := rfl
@[simp] theorem State.setLanes_sched (l : Tab Lane 12) : (s.setLanes l).sched = s.sched := rfl
@[simp] theorem State.setLanes_scale (l : Tab Lane 12) : (s.setLanes l).scale = s.scale := rfl
@[simp] theorem State.setLanes_rehearsal (l : Tab Lane 12) : (s.setLanes l).rehearsal = s.rehearsal := rfl
@[simp] theorem State.setLanes_roster (l : Tab Lane 12) : (s.setLanes l).roster = s.roster := rfl
@[simp] theorem State.setLanes_zones (l : Tab Lane 12) : (s.setLanes l).zones = s.zones := rfl
@[simp] theorem State.setLanes_rules (l : Tab Lane 12) : (s.setLanes l).rules = s.rules := rfl
@[simp] theorem State.setLanes_loader (l : Tab Lane 12) : (s.setLanes l).loader = s.loader := rfl
@[simp] theorem State.setLanes_lanes (l : Tab Lane 12) : (s.setLanes l).lanes = l := rfl
@[simp] theorem State.setLanes_settings (l : Tab Lane 12) : (s.setLanes l).settings = s.settings := rfl
@[simp] theorem State.setLanes_store (l : Tab Lane 12) : (s.setLanes l).store = s.store := rfl
@[simp] theorem State.setLanes_bus (l : Tab Lane 12) : (s.setLanes l).bus = s.bus := rfl
@[simp] theorem State.setLanes_moment (l : Tab Lane 12) : (s.setLanes l).moment = s.moment := rfl
@[simp] theorem State.setLanes_pending (l : Tab Lane 12) : (s.setLanes l).pending = s.pending := rfl
@[simp] theorem State.setSources_pins (l : Tab Source 16) : (s.setSources l).pins = s.pins := rfl
@[simp] theorem State.setSources_time (l : Tab Source 16) : (s.setSources l).time = s.time := rfl
@[simp] theorem State.setSources_labels (l : Tab Source 16) : (s.setSources l).labels = s.labels := rfl
@[simp] theorem State.setSources_sources (l : Tab Source 16) : (s.setSources l).sources = l := rfl
@[simp] theorem State.setSources_sched (l : Tab Source 16) : (s.setSources l).sched = s.sched := rfl
@[simp] theorem State.setSources_scale (l : Tab Source 16) : (s.setSources l).scale = s.scale := rfl
@[simp] theorem State.setSources_rehearsal (l : Tab Source 16) : (s.setSources l).rehearsal = s.rehearsal := rfl
@[simp] theorem State.setSources_roster (l : Tab Source 16) : (s.setSources l).roster = s.roster := rfl
@[simp] theorem State.setSources_zones (l : Tab Source 16) : (s.setSources l).zones = s.zones := rfl
@[simp] theorem State.setSources_rules (l : Tab Source 16) : (s.setSources l).rules = s.rules := rfl
@[simp] theorem State.setSources_loader (l : Tab Source 16) : (s.setSources l).loader = s.loader := rfl
@[simp] theorem State.setSources_lanes (l : Tab Source 16) : (s.setSources l).lanes = s.lanes := rfl
@[simp] theorem State.setSources_settings (l : Tab Source 16) : (s.setSources l).settings = s.settings := rfl
@[simp] theorem State.setSources_store (l : Tab Source 16) : (s.setSources l).store = s.store := rfl
@[simp] theorem State.setSources_bus (l : Tab Source 16) : (s.setSources l).bus = s.bus := rfl
@[simp] theorem State.setSources_moment (l : Tab Source 16) : (s.setSources l).moment = s.moment := rfl
@[simp] theorem State.setSources_pending (l : Tab Source 16) : (s.setSources l).pending = s.pending := rfl
@[simp] theorem State.setBus_pins (b : Shown) : (s.setBus b).pins = s.pins := rfl
@[simp] theorem State.setBus_time (b : Shown) : (s.setBus b).time = s.time := rfl
@[simp] theorem State.setBus_labels (b : Shown) : (s.setBus b).labels = s.labels := rfl
@[simp] theorem State.setBus_sources (b : Shown) : (s.setBus b).sources = s.sources := rfl
@[simp] theorem State.setBus_sched (b : Shown) : (s.setBus b).sched = s.sched := rfl
@[simp] theorem State.setBus_scale (b : Shown) : (s.setBus b).scale = s.scale := rfl
@[simp] theorem State.setBus_rehearsal (b : Shown) : (s.setBus b).rehearsal = s.rehearsal := rfl
@[simp] theorem State.setBus_roster (b : Shown) : (s.setBus b).roster = s.roster := rfl
@[simp] theorem State.setBus_zones (b : Shown) : (s.setBus b).zones = s.zones := rfl
@[simp] theorem State.setBus_rules (b : Shown) : (s.setBus b).rules = s.rules := rfl
@[simp] theorem State.setBus_loader (b : Shown) : (s.setBus b).loader = s.loader := rfl
@[simp] theorem State.setBus_lanes (b : Shown) : (s.setBus b).lanes = s.lanes := rfl
@[simp] theorem State.setBus_settings (b : Shown) : (s.setBus b).settings = s.settings := rfl
@[simp] theorem State.setBus_store (b : Shown) : (s.setBus b).store = s.store := rfl
@[simp] theorem State.setBus_bus (b : Shown) : (s.setBus b).bus = b := rfl
@[simp] theorem State.setBus_moment (b : Shown) : (s.setBus b).moment = s.moment := rfl
@[simp] theorem State.setBus_pending (b : Shown) : (s.setBus b).pending = s.pending := rfl
@[simp] theorem State.nextMoment_pins : (s.nextMoment).pins = s.pins := rfl
@[simp] theorem State.nextMoment_time : (s.nextMoment).time = s.time := rfl
@[simp] theorem State.nextMoment_labels : (s.nextMoment).labels = s.labels := rfl
@[simp] theorem State.nextMoment_sources : (s.nextMoment).sources = s.sources := rfl
@[simp] theorem State.nextMoment_sched : (s.nextMoment).sched = s.sched := rfl
@[simp] theorem State.nextMoment_scale : (s.nextMoment).scale = s.scale := rfl
@[simp] theorem State.nextMoment_rehearsal : (s.nextMoment).rehearsal = s.rehearsal := rfl
@[simp] theorem State.nextMoment_roster : (s.nextMoment).roster = s.roster := rfl
@[simp] theorem State.nextMoment_zones : (s.nextMoment).zones = s.zones := rfl
@[simp] theorem State.nextMoment_rules : (s.nextMoment).rules = s.rules := rfl
@[simp] theorem State.nextMoment_loader : (s.nextMoment).loader = s.loader := rfl
@[simp] theorem State.nextMoment_lanes : (s.nextMoment).lanes = s.lanes := rfl
@[simp] theorem State.nextMoment_settings : (s.nextMoment).settings = s.settings := rfl
@[simp] theorem State.nextMoment_store : (s.nextMoment).store = s.store := rfl
@[simp] theorem State.nextMoment_bus : (s.nextMoment).bus = s.bus := rfl
@[simp] theorem State.nextMoment_moment : (s.nextMoment).moment = s.moment + 1 := rfl
@[simp] theorem State.nextMoment_pending : (s.nextMoment).pending = s.pending := rfl
@[simp] theorem State.withQueue_pins (q : List Instr) : (s.withQueue q).pins = s.pins := rfl
@[simp] theorem State.withQueue_time (q : List Instr) : (s.withQueue q).time = s.time := rfl
@[simp] theorem State.withQueue_labels (q : List Instr) : (s.withQueue q).labels = s.labels := rfl
@[simp] theorem State.withQueue_sources (q : List Instr) : (s.withQueue q).sources = s.sources := rfl
@[simp] theorem State.withQueue_sched (q : List Instr) : (s.withQueue q).sched = s.sched := rfl
@[simp] theorem State.withQueue_scale (q : List Instr) : (s.withQueue q).scale = s.scale := rfl
@[simp] theorem State.withQueue_rehearsal (q : List Instr) : (s.withQueue q).rehearsal = s.rehearsal := rfl
@[simp] theorem State.withQueue_roster (q : List Instr) : (s.withQueue q).roster = s.roster := rfl
@[simp] theorem State.withQueue_zones (q : List Instr) : (s.withQueue q).zones = s.zones := rfl
@[simp] theorem State.withQueue_rules (q : List Instr) : (s.withQueue q).rules = s.rules := rfl
@[simp] theorem State.withQueue_loader (q : List Instr) : (s.withQueue q).loader = s.loader := rfl
@[simp] theorem State.withQueue_lanes (q : List Instr) : (s.withQueue q).lanes = s.lanes := rfl
@[simp] theorem State.withQueue_settings (q : List Instr) : (s.withQueue q).settings = s.settings := rfl
@[simp] theorem State.withQueue_store (q : List Instr) : (s.withQueue q).store = s.store := rfl
@[simp] theorem State.withQueue_bus (q : List Instr) : (s.withQueue q).bus = s.bus := rfl
@[simp] theorem State.withQueue_moment (q : List Instr) : (s.withQueue q).moment = s.moment := rfl
@[simp] theorem State.withQueue_pending (q : List Instr) : (s.withQueue q).pending = q := rfl

/-! ### Reading one place -/

@[simp] theorem State.setPos_pos (p q : Pos) (x : Position) : (s.setPos p x).pos q = if p = q then x else s.pos q :=
  Tab.get_put s.roster p q x

@[simp] theorem State.setLane_lane (p q : Pos) (l : Lane) :
    (s.setLane p l).lane q = if p = q then l else s.lane q := Tab.get_put s.lanes p q l

@[simp] theorem State.setSource_source (i j : Fin 16) (e : Source) :
    (s.setSource i e).source j = if i = j then e else s.source j := Tab.get_put s.sources i j e

end Machine

end Sys2Proof
end

