-- ==== Sys2Proof/Laws/Frames.lean ====
section
/-! SUPPORT. What each shared operation can change: one frame for each. -/

namespace Sys2Proof.Machine

set_option Elab.async false

/-! ### Frames in general -/

theorem Unchanged.refl (but : List Block) (s : State) : Unchanged but s s := by
  intro b _; cases b <;> rfl

theorem Block.agree_trans {b : Block} {s t u : State} (h : b.agree s t) (k : b.agree t u) : b.agree s u := by
  cases b <;> exact Eq.trans k h

theorem Unchanged.trans {but : List Block} {s t u : State} (h : Unchanged but s t) (k : Unchanged but t u) :
    Unchanged but s u := fun b hb => Block.agree_trans (h b hb) (k b hb)

theorem Unchanged.mono {few many : List Block} {s t : State} (h : Unchanged few s t)
    (sub : few ⊆ many := by decide) : Unchanged many s t := fun b hb => h b fun hf => hb (sub hf)

theorem Unchanged.foldl {α : Type} {but : List Block} (f : State → α → State)
    (h : ∀ s x, Unchanged but s (f s x)) (l : List α) (s : State) : Unchanged but s (l.foldl f s) := by
  induction l generalizing s with
  | nil => exact Unchanged.refl but s
  | cons x xs ih => exact Unchanged.trans (h s x) (ih (f s x))

theorem Unchanged.ite {but : List Block} {s t u : State} (c : Prop) [Decidable c] (h : Unchanged but s t)
    (k : Unchanged but s u) : Unchanged but s (if c then t else u) := by
  split <;> assumption

theorem Unchanged.andIte {but : List Block} {s t u v : State} {c : Prop} [Decidable c] (h : Unchanged but s t)
    (k : Unchanged but t u) (l : Unchanged but t v) : Unchanged but s (if c then u else v) :=
  Unchanged.ite c (h.trans k) (h.trans l)

/-! ### Rewriting a part -/

theorem frame_setPos (p : Pos) (x : Position) (s : State) : Unchanged [.roster] s (s.setPos p x) := by
  intro b hb; cases b <;> first | rfl | exact absurd (by decide) hb

theorem frame_setLane (p : Pos) (l : Lane) (s : State) : Unchanged [.lanes] s (s.setLane p l) := by
  intro b hb; cases b <;> first | rfl | exact absurd (by decide) hb

theorem frame_setSource (i : Fin 16) (e : Source) (s : State) : Unchanged [.sources] s (s.setSource i e) := by
  intro b hb; cases b <;> first | rfl | exact absurd (by decide) hb

theorem frame_setTime (b : TimeBase) (s : State) : Unchanged [.time] s (s.setTime b) := by
  intro b hb; cases b <;> first | rfl | exact absurd (by decide) hb

theorem frame_setRehearsal (r : Rehearsal) (s : State) : Unchanged [.rehearsal] s (s.setRehearsal r) := by
  intro b hb; cases b <;> first | rfl | exact absurd (by decide) hb

theorem frame_setPins (p : Pins) (s : State) : Unchanged [.pins] s (s.setPins p) := by
  intro b hb; cases b <;> first | rfl | exact absurd (by decide) hb

theorem frame_setSettings (c : Settings) (s : State) : Unchanged [.settings] s (s.setSettings c) := by
  intro b hb; cases b <;> first | rfl | exact absurd (by decide) hb

theorem frame_setLabels (l : Labels) (s : State) : Unchanged [.labels] s (s.setLabels l) := by
  intro b hb; cases b <;> first | rfl | exact absurd (by decide) hb

theorem frame_setStore (c : Store) (s : State) : Unchanged [.store] s (s.setStore c) := by
  intro b hb; cases b <;> first | rfl | exact absurd (by decide) hb

theorem frame_setRoster (r : Tab Position 12) (s : State) : Unchanged [.roster] s (s.setRoster r) := by
  intro b hb; cases b <;> first | rfl | exact absurd (by decide) hb

theorem frame_setLanes (l : Tab Lane 12) (s : State) : Unchanged [.lanes] s (s.setLanes l) := by
  intro b hb; cases b <;> first | rfl | exact absurd (by decide) hb

theorem frame_setBus (b : Shown) (s : State) : Unchanged [.bus] s (s.setBus b) := by
  intro b hb; cases b <;> first | rfl | exact absurd (by decide) hb

theorem frame_latch (s : State) : Unchanged [.bus] s (s.latch) := frame_setBus _ s

theorem frame_latchOut (p : Pos) (s : State) : Unchanged [.bus] s (s.latchOut p) := frame_setBus _ s

theorem frame_nextMoment (s : State) : Unchanged [.moment] s (s.nextMoment) := by
  intro b hb; cases b <;> first | rfl | exact absurd (by decide) hb

theorem frame_notifyWhere (who : Pos → Bool) (n : Notice) (s : State) : Unchanged [.lanes] s (s.notifyWhere who n) := by
  intro b hb; cases b <;> first | rfl | exact absurd (by decide) hb

theorem frame_notifyAll (n : Notice) (s : State) : Unchanged [.lanes] s (s.notifyAll n) := by
  intro b hb; cases b <;> first | rfl | exact absurd (by decide) hb

theorem frame_notifyControllers (n : Notice) (s : State) : Unchanged [.lanes] s (s.notifyControllers n) := by
  intro b hb; cases b <;> first | rfl | exact absurd (by decide) hb

theorem frame_notifyOne (q : Pos) (n : Notice) (s : State) : Unchanged [.lanes] s (s.notifyOne q n) := by
  intro b hb; cases b <;> first | rfl | exact absurd (by decide) hb

theorem frame_clearBoards (f : Notice → Bool) (s : State) : Unchanged [.lanes] s (s.clearBoards f) := by
  intro b hb; cases b <;> first | rfl | exact absurd (by decide) hb

theorem frame_refreshOffers (s : State) : Unchanged [.lanes] s (s.refreshOffers) := by
  intro b hb; cases b <;> first | rfl | exact absurd (by decide) hb

theorem frame_sync (s : State) : Unchanged [.store] s (s.sync) := by
  intro b hb; cases b <;> first | rfl | exact absurd (by decide) hb

theorem frame_setRecords (rs : List Record) (s : State) : Unchanged [.sched] s (s.setRecords rs) := by
  intro b hb; cases b <;> first | rfl | exact absurd (by decide) hb

theorem frame_updateRecord (id : Nat) (f : Record → Record) (s : State) : Unchanged [.sched] s (s.updateRecord id f) := by
  intro b hb; cases b <;> first | rfl | exact absurd (by decide) hb

theorem frame_place (c : Change) (a : Option Nat) (o : RecordOrigin) (st : RecordState) (x : Option (Nat × Nat)) (s : State) : Unchanged [.sched] s (s.place c a o st x) := by
  intro b hb; cases b <;> first | rfl | exact absurd (by decide) hb

theorem frame_dissolveEmpty (s : State) : Unchanged [.scale] s (s.dissolveEmpty) := by
  intro b hb; cases b <;> first | rfl | exact absurd (by decide) hb

theorem frame_listWithdrawn (c : Change) (why : Reason) (s : State) : Unchanged [.sched] s (s.listWithdrawn c why) := by
  intro b hb; cases b <;> first | rfl | exact absurd (by decide) hb

theorem frame_finish (s : State) : Unchanged [.lanes, .store] s (s.finish) := by
  exact (frame_refreshOffers s).mono.trans (frame_sync _).mono

/-! ### The Change Schedule -/

theorem frame_withdraw (r : Record) (why : Reason) (s : State) : Unchanged [.sched, .scale, .lanes] s (s.withdraw r why) := by
  unfold State.withdraw
  dsimp only
  refine Unchanged.andIte ?_ (frame_notifyAll _ _).mono (frame_notifyControllers _ _).mono
  refine Unchanged.andIte ?_ (frame_dissolveEmpty _).mono (Unchanged.refl _ _)
  refine Unchanged.andIte ?_ (frame_listWithdrawn _ _ _).mono (Unchanged.refl _ _)
  exact (frame_setRecords _ s).mono

theorem frame_tallyCounts (vs : List Voter) (s : State) : Unchanged [.sched] s (s.tallyCounts vs) := by
  intro b hb; cases b <;> first | rfl | exact absurd (by decide) hb

theorem frame_tallyAgreement (s : State) : Unchanged [.scale] s (s.tallyAgreement) := by
  unfold State.tallyAgreement
  refine Unchanged.ite _ ?_ (Unchanged.refl _ _)
  intro b hb; cases b <;> first | rfl | exact absurd (by decide) hb

theorem frame_tallyLapse (s : State) : Unchanged [.sched, .scale, .lanes] s (s.tallyLapse) := by
  refine Unchanged.foldl _ (fun s r => ?_) _ s
  exact Unchanged.ite _ (frame_withdraw _ _ s) (Unchanged.ite _ (frame_withdraw _ _ s) (Unchanged.refl _ s))

theorem frame_tallyPurge (vs : List Voter) (s : State) : Unchanged [.sched] s (s.tallyPurge vs) := by
  intro b hb; cases b <;> first | rfl | exact absurd (by decide) hb

theorem frame_placeNewcomer (vs : List Voter) (n : Refused) (s : State) : Unchanged [.sched] s (s.placeNewcomer vs n) := by
  intro b hb; cases b <;> first | rfl | exact absurd (by decide) hb

theorem frame_tryNewcomer {s t : State} (vs : List Voter) (n : Refused) (h : s.tryNewcomer vs n = some t) :
    Unchanged [.sched, .scale, .lanes] s t := by
  unfold State.tryNewcomer at h
  split at h
  · cases h; exact (frame_placeNewcomer vs n s).mono
  · split at h
    · cases h; exact (frame_withdraw _ _ s).trans (frame_placeNewcomer vs n _).mono
    · cases h

theorem frame_placeAll (vs : List Voter) (l : List Refused) (s : State) (f : Option Refused) :
    Unchanged [.sched, .scale, .lanes] s (placeAll vs l (s, f)).1 := by
  induction l generalizing s f with
  | nil => exact Unchanged.refl _ s
  | cons n ns ih =>
    unfold placeAll
    split
    · next h => exact (frame_tryNewcomer vs n h).trans (ih _ _)
    · exact ih _ _

theorem frame_setRefused (held : Bool) (f : Option Refused) (s : State) :
    Unchanged [.sched, .lanes] s (s.setRefused held f) := by
  unfold State.setRefused
  split
  · refine Unchanged.ite _ (Unchanged.refl _ s) ?_
    intro b hb; cases b <;> first | rfl | exact absurd (by decide) hb
  · dsimp only
    refine Unchanged.ite _ ?_ (Unchanged.trans ?_ (frame_notifyControllers _ _).mono) <;>
      (intro b hb; cases b <;> first | rfl | exact absurd (by decide) hb)

theorem frame_tallyNewcomers (vs : List Voter) (s : State) : Unchanged [.sched, .scale, .lanes] s (s.tallyNewcomers vs) := by
  unfold State.tallyNewcomers
  exact (frame_placeAll vs _ s none).trans (frame_setRefused _ _ _).mono

theorem frame_judge (vs : List Voter) (id : Nat) (s : State) : Unchanged [.sched] s (s.judge vs id) := by
  unfold State.judge
  split
  · exact Unchanged.refl _ s
  · split
    · dsimp only
      exact Unchanged.ite _ (frame_updateRecord _ _ s) (frame_setRecords _ s)
    · exact Unchanged.refl _ s

theorem frame_noteContest (r : Record) (s : State) : Unchanged [.lanes] s (s.noteContest r) := by
  intro b hb; cases b <;> first | rfl | exact absurd (by decide) hb

theorem frame_tallyQualify (vs : List Voter) (s : State) : Unchanged [.sched, .lanes] s (s.tallyQualify vs) := by
  unfold State.tallyQualify
  dsimp only
  exact Unchanged.trans (Unchanged.foldl _ (fun s id => (frame_judge vs id s).mono) _ s)
    (Unchanged.foldl _ (fun s r => (frame_noteContest r s).mono) _ _)

theorem frame_tallyOppose (s : State) : Unchanged [.sched, .scale, .lanes] s (s.tallyOppose) := by
  exact Unchanged.foldl _ (fun s r => Unchanged.ite _ (frame_withdraw _ _ s) (Unchanged.refl _ s)) _ s

theorem frame_tallyRelease (vs : List Voter) (s : State) : Unchanged [.sched] s (s.tallyRelease vs) := by
  unfold State.tallyRelease
  exact Unchanged.trans (frame_setRecords _ s) (Unchanged.foldl _ (fun s id => frame_judge vs id s) _ _)

theorem frame_tally (s : State) : Unchanged [.sched, .scale, .lanes] s (s.tally) := by
  unfold State.tally
  dsimp only
  refine Unchanged.trans ?_ (frame_tallyRelease _ _).mono
  refine Unchanged.trans ?_ (frame_tallyOppose _)
  refine Unchanged.trans ?_ (frame_tallyQualify _ _).mono
  refine Unchanged.trans ?_ (frame_tallyNewcomers _ _)
  refine Unchanged.trans ?_ (frame_tallyPurge _ _).mono
  refine Unchanged.trans ?_ (frame_tallyLapse _)
  exact (frame_tallyCounts _ s).mono.trans (frame_tallyAgreement _).mono

theorem frame_markTrailing (old : Nat) (s : State) : Unchanged [.sched] s (s.markTrailing old) := by
  intro b hb; cases b <;> first | rfl | exact absurd (by decide) hb

/-- D alone rewritten. -/
theorem frame_withScale (c : Scale) (s : State) : Unchanged [.scale] s { s with scale := c } := by
  intro b hb; cases b <;> first | rfl | exact absurd (by decide) hb

theorem frame_withRehearsal (r : Rehearsal) (s : State) : Unchanged [.rehearsal] s { s with rehearsal := r } := by
  intro b hb; cases b <;> first | rfl | exact absurd (by decide) hb

theorem frame_withZones (z : Tab Int 16) (s : State) : Unchanged [.zones] s { s with zones := z } := by
  intro b hb; cases b <;> first | rfl | exact absurd (by decide) hb

theorem frame_withRules (r : RuleStore) (s : State) : Unchanged [.rules] s { s with rules := r } := by
  intro b hb; cases b <;> first | rfl | exact absurd (by decide) hb

theorem frame_withLoader (l : Loader) (s : State) : Unchanged [.loader] s { s with loader := l } := by
  intro b hb; cases b <;> first | rfl | exact absurd (by decide) hb

theorem frame_withSched (c : Schedule) (s : State) : Unchanged [.sched] s { s with sched := c } := by
  intro b hb; cases b <;> first | rfl | exact absurd (by decide) hb

theorem frame_setD (d : Nat) (s : State) : Unchanged [.sched, .scale] s (s.setD d) := by
  unfold State.setD
  dsimp only
  refine Unchanged.trans ?_ (frame_setRecords _ _).mono
  refine Unchanged.trans ?_ (frame_withScale _ _).mono
  split
  · exact Unchanged.ite _ (Unchanged.refl _ s) (frame_markTrailing _ s).mono
  · exact Unchanged.refl _ s

theorem frame_markSkipped (r : Record) (s : State) : Unchanged [.rules] s (s.markSkipped r) := by
  unfold State.markSkipped
  split
  · exact frame_withRules _ s
  · exact Unchanged.refl _ s

/-! ### The Source Table -/

theorem frame_noteSource (i : Fin 16) (s : State) : Unchanged [.lanes] s (s.noteSource i) := by
  intro b hb; cases b <;> first | rfl | exact absurd (by decide) hb

theorem frame_unmark (i : Fin 16) (s : State) : Unchanged [.sched] s (s.unmark i) := by
  intro b hb; cases b <;> first | rfl | exact absurd (by decide) hb

theorem frame_putSource (i : Fin 16) (e : Source) (s : State) : Unchanged [.sources, .sched, .lanes] s (s.putSource i e) := by
  unfold State.putSource
  dsimp only
  refine Unchanged.andIte ?_ (frame_noteSource i _).mono (Unchanged.refl _ _)
  exact Unchanged.trans (frame_setSource i e s).mono
    (Unchanged.ite _ (Unchanged.refl _ _) (frame_unmark i _).mono)

theorem frame_prompt (i : Fin 16) (e : Source) (s : State) : Unchanged [.sources, .sched, .scale, .lanes] s (s.prompt i e) := by
  exact Unchanged.ite _ ((frame_putSource i e s).mono.trans (frame_tally _).mono) (frame_putSource i e s).mono

theorem frame_departSources (p : Pos) (s : State) : Unchanged [.sources, .sched, .lanes] s (s.departSources p) := by
  refine Unchanged.foldl _ (fun s i => ?_) _ s
  dsimp only
  split
  · exact Unchanged.ite _ (frame_putSource _ _ s) (Unchanged.refl _ s)
  · exact Unchanged.refl _ s

theorem frame_putLeaving (p : Pos) (i : Fin 16) (e : Source) (s : State) :
    Unchanged [.sources, .sched, .lanes] s (s.putLeaving p i e) :=
  (frame_putSource i e s).trans (frame_departSources p _)

theorem frame_boundarySource (old : Option Nat) (rekey : Bool) (i : Fin 16) (s : State) : Unchanged [.sources, .sched, .lanes] s (s.boundarySource old rekey i) := by
  unfold State.boundarySource
  dsimp only
  refine Unchanged.ite _ (Unchanged.refl _ s) ?_
  have h : Unchanged [.sources, .sched, .lanes] s
      (if ((s.source i).spent old != (s.source i).spent s.time.t) = true then s.unmark i else s) :=
    Unchanged.ite _ (frame_unmark i s).mono (Unchanged.refl _ s)
  refine Unchanged.ite _ ?_ (h.trans (frame_putSource _ _ _))
  exact (h.trans (frame_putSource _ _ _)).trans (frame_noteSource i _).mono

theorem frame_boundarySources (old : Option Nat) (rekey : Bool) (s : State) : Unchanged [.sources, .sched, .lanes] s (s.boundarySources old rekey) := by
  exact Unchanged.foldl _ (fun s i => frame_boundarySource old rekey i s) _ s

theorem frame_freeSources (s : State) : Unchanged [.sources, .sched, .lanes] s (s.freeSources) := by
  exact Unchanged.foldl _ (fun s i => Unchanged.ite _ (Unchanged.refl _ s) (frame_putSource i _ s)) _ s

/-! ### The Roster and rehearsals -/

theorem frame_noteSlot (p : Pos) (s : State) : Unchanged [.lanes] s (s.noteSlot p) := by
  intro b hb; cases b <;> first | rfl | exact absurd (by decide) hb

theorem frame_boundaryRoster (c : Bool) (s : State) : Unchanged [.roster, .lanes] s (s.boundaryRoster c) := by
  refine Unchanged.foldl _ (fun s p => ?_) _ s
  dsimp only
  exact Unchanged.ite _ ((frame_setPos p _ s).mono.trans (frame_noteSlot p _).mono) (frame_setPos p _ s).mono

theorem frame_boundarySettings (s : State) : Unchanged [.roster] s (s.boundarySettings) := by
  intro b hb; cases b <;> first | rfl | exact absurd (by decide) hb

theorem frame_noteResult (a b : Nat) (c : Bool) (s : State) : Unchanged [.lanes] s (s.noteResult a b c) := by
  unfold State.noteResult
  split
  · exact frame_notifyOne _ _ s
  · exact Unchanged.refl _ s

theorem frame_endRehearsal (c : Bool) (s : State) : Unchanged [.lanes, .rehearsal] s (s.endRehearsal c) := by
  unfold State.endRehearsal
  dsimp only
  exact ((frame_clearBoards _ s).mono.trans (frame_noteResult _ _ _ _).mono).trans (frame_withRehearsal _ _).mono

theorem frame_cancelRehearsal (s : State) : Unchanged [.lanes, .rehearsal] s (s.cancelRehearsal) := by
  exact Unchanged.ite _ (frame_endRehearsal _ s) (Unchanged.refl _ s)

theorem frame_frameRehearsal (s : State) : Unchanged [.rehearsal] s (s.frameRehearsal) := by
  unfold State.frameRehearsal
  split
  · exact frame_withRehearsal _ s
  · exact Unchanged.refl _ s

theorem frame_rollRehearsal (s : State) : Unchanged [.rehearsal] s (s.rollRehearsal) := by
  unfold State.rollRehearsal
  split
  · exact Unchanged.ite _ (frame_withRehearsal _ s) (Unchanged.refl _ s)
  · exact Unchanged.refl _ s

theorem frame_moveRehearsal (t x : Nat) (s : State) : Unchanged [.lanes, .rehearsal] s (s.moveRehearsal t x) := by
  unfold State.moveRehearsal
  split
  · dsimp only
    exact Unchanged.ite _ (frame_cancelRehearsal s) (frame_withRehearsal _ s).mono
  · exact Unchanged.refl _ s

theorem frame_settlePending (b : Nat) (real : Bool) (s : State) : Unchanged [.lanes, .rehearsal] s (s.settlePending b real) := by
  unfold State.settlePending
  dsimp only
  refine Unchanged.ite _ (Unchanged.ite _ (frame_cancelRehearsal s) ?_) (Unchanged.refl _ s)
  split
  · exact Unchanged.refl _ s
  · exact (frame_withRehearsal _ s).mono.trans (frame_notifyAll _ _).mono

theorem frame_completeRehearsal (t : Nat) (s : State) : Unchanged [.lanes, .rehearsal] s (s.completeRehearsal t) := by
  exact Unchanged.ite _ (frame_endRehearsal _ s) (Unchanged.refl _ s)

/-! ### The Change-over Controller -/

theorem frame_addHistory (e : BitVec 16 → HistoryEntry) (s : State) : Unchanged [.scale] s (s.addHistory e) := by
  intro b hb; cases b <;> first | rfl | exact absurd (by decide) hb

theorem frame_clearAll (s : State) : Unchanged [.lanes, .rehearsal, .scale, .sched, .sources] s (s.clearAll) := by
  unfold State.clearAll
  dsimp only
  refine Unchanged.trans ?_ (frame_notifyAll _ _).mono
  refine Unchanged.trans ?_ (frame_clearBoards _ _).mono
  refine Unchanged.trans ?_ (frame_freeSources _).mono
  refine Unchanged.trans ?_ (frame_addHistory _ _).mono
  refine Unchanged.trans (frame_cancelRehearsal s).mono ?_
  intro b hb; cases b <;> first | rfl | exact absurd (by decide) hb

theorem frame_boundaryClear (s : State) : Unchanged [.lanes, .rehearsal, .scale, .sched, .sources] s (s.boundaryClear) := by
  exact Unchanged.ite _ (frame_clearAll s) (Unchanged.refl _ s)

theorem frame_boundaryInserted (s : State) : Unchanged [.scale, .sched] s (s.boundaryInserted) := by
  unfold State.boundaryInserted
  split
  · exact Unchanged.refl _ s
  · dsimp only
    split
    · exact (frame_withScale _ s).mono.trans (frame_setD _ _).mono
    · exact (frame_withScale _ s).mono

theorem frame_boundaryProvisional (s : State) : Unchanged [.scale] s (s.boundaryProvisional) := by
  exact Unchanged.ite _ (frame_withScale _ s) (Unchanged.refl _ s)

theorem frame_boundarySettling (s : State) : Unchanged [.sched] s (s.boundarySettling) := by
  unfold State.boundarySettling
  split
  · exact frame_setRecords _ s
  · exact Unchanged.refl _ s

theorem frame_applyRecord (t : Nat) (r : Record) (s : State) : Unchanged [.scale, .sched, .lanes, .zones] s (s.applyRecord t r) := by
  unfold State.applyRecord
  dsimp only
  split
  · split
    · refine Unchanged.ite _ ?_ (frame_withdraw _ _ s).mono
      split
      · exact (frame_addHistory _ s).mono.trans (frame_withScale _ _).mono
      · exact (frame_addHistory _ s).mono.trans (frame_setD _ _).mono
    · exact (frame_withdraw _ _ s).mono
  · exact ((frame_addHistory _ s).mono.trans (frame_withScale _ _).mono).trans (frame_setD _ _).mono
  · split
    · exact (frame_addHistory _ s).mono.trans (frame_withZones _ _).mono
    · exact (frame_addHistory _ s).mono

theorem frame_retire (g : Group) (s : State) : Unchanged [.scale, .sched] s (s.retire g) := by
  exact (frame_setRecords _ s).mono.trans (frame_withScale _ _).mono

theorem frame_applyGroup (t : Nat) (g : Group) (s : State) : Unchanged [.scale, .sched, .lanes, .zones] s (s.applyGroup t g) := by
  unfold State.applyGroup
  dsimp only
  have h : Unchanged [.scale, .sched, .lanes, .zones] s
      ((List.foldl (fun a r => a.applyRecord t r) s (s.members g.tag)).retire g) :=
    (Unchanged.foldl _ (fun s r => frame_applyRecord t r s) _ s).trans (frame_retire g _).mono
  exact Unchanged.ite _ h (h.trans (frame_notifyAll _ _).mono)

theorem frame_boundaryApply (retime : Bool) (s : State) : Unchanged [.scale, .sched, .lanes, .zones, .rehearsal] s (s.boundaryApply retime) := by
  unfold State.boundaryApply
  split
  · dsimp only
    refine Unchanged.trans ?_ (frame_completeRehearsal _ _).mono
    split
    · exact (frame_applyGroup _ _ s).mono
    · exact Unchanged.refl _ s
  · exact Unchanged.refl _ s

theorem frame_missedPass (t : Nat) (retime : Bool) (s : State) : Unchanged [.sched, .scale, .lanes] s (s.missedPass t retime) := by
  unfold State.missedPass
  dsimp only
  exact ((frame_setRecords _ s).mono.trans (frame_dissolveEmpty _).mono).trans
    (Unchanged.foldl _ (fun s r => (frame_notifyAll _ s).mono) _ _)

theorem frame_armRecord (b a tag : Nat) (r : Record) (s : State) : Unchanged [.sched, .lanes] s (s.armRecord b a tag r) := by
  unfold State.armRecord
  dsimp only
  exact (frame_updateRecord _ _ s).mono.trans (frame_notifyAll _ _).mono

theorem frame_armInto (b : Nat) (r : Record) (s : State) : Unchanged [.sched, .scale, .lanes, .rehearsal] s (s.armInto b r) := by
  unfold State.armInto
  dsimp only
  split
  · exact (frame_armRecord _ _ _ _ s).mono
  · have h : Unchanged [.sched, .scale, .lanes, .rehearsal] s
        (if s.rehearsal.isArmed = true then s.cancelRehearsal else s) :=
      Unchanged.ite _ (frame_cancelRehearsal s).mono (Unchanged.refl _ s)
    split
    · exact h
    · exact (h.trans (frame_withScale _ _).mono).trans (frame_armRecord _ _ _ _ _).mono

theorem frame_armAll (b : Nat) (rs : List Record) (s : State) : Unchanged [.sched, .scale, .lanes, .rehearsal] s (s.armAll b rs) := by
  exact Unchanged.foldl _ (fun s r => frame_armInto b r s) _ s

theorem frame_armingPass (b : Nat) (s : State) : Unchanged [.sched, .scale, .lanes, .rehearsal] s (s.armingPass b) := by
  unfold State.armingPass
  dsimp only
  refine Unchanged.trans ?_ (frame_settlePending _ _ _).mono
  exact Unchanged.andIte (Unchanged.foldl _ (fun s r => (frame_withdraw r .range s).mono) _ s)
    ((frame_armAll _ _ _).trans (frame_armAll _ _ _)) (frame_armAll _ _ _)

theorem frame_rollGroup (tag : Nat) (s : State) : Unchanged [.scale, .roster, .lanes] s (s.rollGroup tag) := by
  unfold State.rollGroup
  dsimp only
  refine Unchanged.trans (frame_withScale _ s).mono (Unchanged.foldl _ (fun s p => ?_) _ _)
  exact Unchanged.ite _ ((frame_setPos p _ s).mono.trans (frame_noteSlot p _).mono) (Unchanged.refl _ s)

theorem frame_rollCalls (s : State) : Unchanged [.scale, .roster, .lanes, .rehearsal] s (s.rollCalls) := by
  unfold State.rollCalls
  split
  · exact Unchanged.refl _ s
  · exact (Unchanged.foldl _ (fun s k => (frame_rollGroup k s).mono) _ s).trans (frame_rollRehearsal _).mono

/-! ### Zones and rule sets -/

theorem frame_drawZone (b z : Nat) (s : State) : Unchanged [.sched] s (s.drawZone b z) := by
  unfold State.drawZone
  split
  · exact frame_place _ _ _ _ _ s
  · exact Unchanged.refl _ s

theorem frame_drawPass (c : Bool) (s : State) : Unchanged [.sched] s (s.drawPass c) := by
  unfold State.drawPass
  split
  · exact Unchanged.foldl _ (fun s z => frame_drawZone _ z s) _ s
  · exact Unchanged.refl _ s

theorem frame_idleLoader (s : State) : Unchanged [.loader] s (s.idleLoader) := by
  intro b hb; cases b <;> first | rfl | exact absurd (by decide) hb

theorem frame_timeOutLoad (s : State) : Unchanged [.loader, .lanes] s (s.timeOutLoad) := by
  unfold State.timeOutLoad
  dsimp only
  split
  · exact (frame_idleLoader s).mono.trans (frame_notifyOne _ _ _).mono
  · exact (frame_idleLoader s).mono

theorem frame_tickLoader (s : State) : Unchanged [.loader] s (s.tickLoader) := by
  exact Unchanged.ite _ (frame_withLoader _ s) (Unchanged.refl _ s)

theorem frame_settleLoader (s : State) : Unchanged [.loader] s (s.settleLoader) := frame_withLoader _ s

theorem frame_expireLoader (s : State) : Unchanged [.loader, .lanes] s (s.expireLoader) := by
  exact Unchanged.ite _ (frame_timeOutLoad s) (Unchanged.refl _ s)

theorem frame_loadTimedOut (s : State) : Unchanged [.loader, .lanes] s (loadTimedOut s) := by
  exact Unchanged.ite _ (frame_timeOutLoad s) (Unchanged.refl _ s)

theorem frame_departLoader (p : Pos) (s : State) : Unchanged [.loader] s (s.departLoader p) := by
  unfold State.departLoader
  split
  · exact Unchanged.ite _ (frame_idleLoader s) (Unchanged.refl _ s)
  · exact Unchanged.refl _ s

theorem frame_answerClaimer (c : Code) (b : List Byte) (s : State) : Unchanged [.lanes] s (s.answerClaimer c b) := by
  unfold State.answerClaimer
  split
  · exact Unchanged.refl _ s
  · exact frame_setLane _ _ s

theorem frame_install (r : RuleStore) (s : State) : Unchanged [.rules, .sched, .scale, .lanes] s (s.install r) := by
  unfold State.install
  dsimp only
  exact (frame_withRules r s).mono.trans (Unchanged.foldl _ (fun s x => (frame_withdraw x .replaced s).mono) _ _)

theorem frame_boundaryVerify (s : State) : Unchanged [.rules, .sched, .scale, .lanes, .loader] s (s.boundaryVerify) := by
  unfold State.boundaryVerify
  refine Unchanged.ite _ ?_ (Unchanged.refl _ s)
  split
  · exact ((frame_install _ s).mono.trans (frame_answerClaimer _ _ _).mono).trans (frame_idleLoader _).mono
  · exact (frame_answerClaimer _ _ s).mono.trans (frame_idleLoader _).mono

/-! ### Time, labels and lanes -/

theorem frame_boundaryLabels (s : State) : Unchanged [.labels] s (s.boundaryLabels) := by
  intro b hb; cases b <;> first | rfl | exact absurd (by decide) hb

theorem frame_noteSlip (p : Nat) (s : State) : Unchanged [.lanes] s (s.noteSlip p) := by
  intro b hb; cases b <;> first | rfl | exact absurd (by decide) hb

theorem frame_arbitrate (s : State) : Unchanged [.time, .lanes] s (s.arbitrate) := by
  unfold State.arbitrate
  dsimp only
  exact Unchanged.ite _ (frame_setTime _ s).mono ((frame_setTime _ s).mono.trans (frame_notifyControllers _ _).mono)

theorem frame_markMiss (c : Ctl) (s : State) : Unchanged [.time] s (markMiss c s) := by
  exact Unchanged.ite _ (frame_setTime _ s) (Unchanged.refl _ s)

theorem frame_staleEntry (i : Fin 16) (s : State) : Unchanged [.sources, .sched, .scale, .lanes] s (staleEntry i s) := by
  unfold staleEntry
  dsimp only
  exact Unchanged.ite _ (frame_prompt _ _ s) (Unchanged.refl _ s)

theorem frame_takeCheckDue (p : Pos) (s : State) : Unchanged [.roster, .lanes] s (takeCheckDue p s) := by
  unfold takeCheckDue
  split
  · refine Unchanged.ite _ ?_ (Unchanged.refl _ s)
    dsimp only
    exact Unchanged.ite _ ((frame_setPos p _ s).mono.trans (frame_noteSlot p _).mono) (frame_setPos p _ s).mono
  · exact Unchanged.refl _ s

theorem frame_lagLimitReached (p : Pos) (s : State) : Unchanged [.roster, .lanes] s (lagLimitReached p s) := by
  unfold lagLimitReached
  dsimp only
  exact Unchanged.ite _ ((frame_setPos p _ s).mono.trans (frame_noteSlot p _).mono) (Unchanged.refl _ s)

theorem frame_resetLane (p : Pos) (s : State) : Unchanged [.roster, .lanes] s (s.resetLane p) := by
  unfold State.resetLane
  dsimp only
  refine Unchanged.ite _ ?_ (Unchanged.refl _ s)
  exact Unchanged.trans (Unchanged.ite _ (frame_setPos p _ s).mono (Unchanged.refl _ s)) (frame_setLane p _ _).mono

theorem frame_resetLanes (s : State) : Unchanged [.roster, .lanes] s (s.resetLanes) := by
  exact Unchanged.foldl _ (fun s p => frame_resetLane p s) _ s

theorem frame_clearLane (p : Pos) (s : State) : Unchanged [.lanes] s (s.clearLane p) := by
  intro b hb; cases b <;> first | rfl | exact absurd (by decide) hb

theorem frame_sendNotice (p : Pos) (e : BoardEntry) (b : List Byte) (s : State) : Unchanged [.roster, .lanes] s (s.sendNotice p e b) := by
  unfold State.sendNotice
  dsimp only
  exact Unchanged.ite _ ((frame_setLane p _ s).mono.trans (frame_setPos p _ _).mono) (frame_setLane p _ s).mono

theorem frame_arbiter (p : Pos) (s : State) : Unchanged [.roster, .lanes] s (s.arbiter p) := by
  unfold State.arbiter
  refine Unchanged.ite _ ?_ (Unchanged.refl _ s)
  split
  · exact Unchanged.ite _ (frame_setLane p _ s).mono (Unchanged.refl _ s)
  · split
    · exact Unchanged.ite _ (frame_sendNotice p _ _ s) (Unchanged.refl _ s)
    · exact Unchanged.refl _ s

theorem frame_owe (p : Pos) (r : Response) (s : State) : Unchanged [.lanes] s (s.owe p r) := by
  intro b hb; cases b <;> first | rfl | exact absurd (by decide) hb

theorem frame_passBytes (p : Pos) (n : Nat) (s : State) : Unchanged [.lanes] s (s.passBytes p n) := by
  intro b hb; cases b <;> first | rfl | exact absurd (by decide) hb

/-! ### The boundary -/

theorem frame_boundaryInputs (s : State) : Unchanged [.time, .settings, .roster] s (s.boundaryInputs) := by
  intro b hb; cases b <;> first | rfl | exact absurd (by decide) hb

theorem frame_boundaryMove (old : Option Nat) (retime : Bool) (s : State) : Unchanged [.lanes, .rehearsal] s (s.boundaryMove old retime) := by
  unfold State.boundaryMove
  split
  · exact frame_moveRehearsal _ _ s
  · exact Unchanged.refl _ s

theorem frame_boundaryScale (retime : Bool) (s : State) : Unchanged [.lanes, .rehearsal, .scale, .sched, .sources, .zones] s (s.boundaryScale retime) := by
  unfold State.boundaryScale
  refine Unchanged.trans ?_ (frame_boundaryApply _ _).mono
  refine Unchanged.trans ?_ (frame_boundarySettling _).mono
  refine Unchanged.trans ?_ (frame_boundaryProvisional _).mono
  exact (frame_boundaryClear s).mono.trans (frame_boundaryInserted _).mono

theorem frame_boundaryArm (retime : Bool) (s : State) : Unchanged [.lanes, .rehearsal, .scale, .sched] s (s.boundaryArm retime) := by
  unfold State.boundaryArm
  split
  · exact (frame_missedPass _ _ s).mono.trans (frame_armingPass _ _).mono
  · exact Unchanged.refl _ s

theorem frame_checkBackup (s : State) : Unchanged [.pins, .store] s (s.checkBackup) := by
  intro b hb; cases b <;> first | rfl | exact absurd (by decide) hb

theorem frame_beginSecond (s : State) : Unchanged [.time, .loader] s (s.beginSecond) :=
  (frame_setTime _ s).mono.trans (frame_settleLoader _).mono

theorem frame_quietStart (s : State) : Unchanged [.moment, .scale, .roster, .lanes, .rehearsal, .store] s (s.quietStart) := by
  unfold State.quietStart
  refine Unchanged.trans ?_ (frame_finish _).mono
  refine Unchanged.trans ?_ (frame_resetLanes _).mono
  exact (frame_nextMoment s).mono.trans (frame_rollCalls _).mono

theorem frame_openQuiet (s : State) :
    Unchanged [.moment, .scale, .roster, .lanes, .rehearsal, .store, .bus] s (s.openQuiet) :=
  (frame_latch s).mono.trans (frame_quietStart _).mono

theorem frame_beginQuiet (s : State) :
    Unchanged [.time, .loader, .moment, .scale, .roster, .lanes, .rehearsal, .store, .bus] s (s.beginQuiet) :=
  Unchanged.ite _
    (((frame_setTime _ s).mono.trans (frame_settleLoader _).mono).trans (frame_openQuiet _).mono)
    (frame_quietStart s).mono

theorem frame_arbiters (s : State) : Unchanged [.roster, .lanes] s (s.arbiters) :=
  Unchanged.foldl _ (fun s p => frame_arbiter p s) _ s

/-- What the start of a frame can change. -/
theorem frame_openFrame (s : State) :
    Unchanged [.moment, .scale, .roster, .lanes, .rehearsal, .store, .bus] s (s.openFrame) := by
  unfold State.openFrame
  split
  · exact Unchanged.ite _ ((frame_finish s).mono.trans (frame_openQuiet _).mono)
      ((((frame_finish s).mono.trans (frame_arbiters _).mono).trans (frame_finish _).mono).trans (frame_latch _).mono)
  · exact (frame_finish s).mono

end Sys2Proof.Machine
end

