-- ==== Sys2Proof/Laws/PerInstr.lean ====
section
/-! SUPPORT. Facts about every command as syntax, one lemma per constructor. -/

namespace Sys2Proof.Machine

@[simp] theorem beBytes_length (n v : Nat) : (beBytes n v).length = n := by
  induction n generalizing v with
  | zero => rfl
  | succ n ih => simp [beBytes, ih]

@[simp] theorem wordBytes_length {w : Nat} (n : Nat) (x : BitVec w) : (wordBytes n x).length = n :=
  beBytes_length n x.toNat

end Sys2Proof.Machine

namespace Sys2Proof.Laws.ParcelFits

set_option Elab.async false

/-- R164, R185: a request that a well-formed command sends fits into one parcel. -/
def Statement (i : Instr) : Prop :=
  ∀ p r, Machine.requestOf i = some (p, r) → i.wellFormed = true → r.payload.length ≤ 30

theorem none_ {i : Instr} (h : Machine.requestOf i = none) : Statement i := by
  intro p r k
  rw [h] at k
  cases k

theorem some_ {i : Instr} {p : Pos} {r : Machine.Request} (h : Machine.requestOf i = some (p, r))
    (fit : r.payload.length ≤ 30) : Statement i := by
  intro q t k _
  rw [h] at k
  cases k
  exact fit

theorem startUp : Statement (.startUp) := none_ rfl

theorem resetAssert (clk : BitVec 12) : Statement (.resetAssert clk) := none_ rfl

theorem mainPowerLoss : Statement (.mainPowerLoss) := none_ rfl

theorem vbakLow (boundaries : Nat) : Statement (.vbakLow boundaries) := none_ rfl

theorem refclkStop (clk : BitVec 12) : Statement (.refclkStop clk) := none_ rfl

theorem refclkResume : Statement (.refclkResume) := none_ rfl

theorem frameEnd (segs : List (BitVec 48)) (order : FrameOrder) : Statement (.frameEnd segs order) := none_ rfl

theorem markMiss (c : Ctl) : Statement (.markMiss c) := none_ rfl

theorem secondBoundary : Statement (.secondBoundary) := none_ rfl

theorem stale (i : Fin 16) : Statement (.stale i) := none_ rfl

theorem takeCheckDue (p : Pos) : Statement (.takeCheckDue p) := none_ rfl

theorem lagLimitReached (p : Pos) : Statement (.lagLimitReached p) := none_ rfl

theorem quietFrames : Statement (.quietFrames) := none_ rfl

theorem realignment : Statement (.realignment) := none_ rfl

theorem loadTimedOut : Statement (.loadTimedOut) := none_ rfl

theorem transferBegin (p : Pos) : Statement (.transferBegin p) := none_ rfl

theorem transferComplete (p : Pos) : Statement (.transferComplete p) := none_ rfl

theorem badForm (p : Pos) (bytes : List Byte) : Statement (.badForm p bytes) := none_ rfl

theorem unknownKind (p : Pos) (kind : Byte) (payload : List Byte) : Statement (.unknownKind p kind payload) := none_ rfl

theorem announce (p : Pos) (origin ds kind : Byte) (instant : Option (BitVec 40)) :
    Statement (.announce p origin ds kind instant) := some_ rfl (by cases instant <;> simp [Machine.Request.payload])

theorem setTime (p : Pos) (x : BitVec 40) :
    Statement (.setTime p x) := some_ rfl (by simp [Machine.Request.payload])

theorem setOffset (p : Pos) (value : BitVec 16) :
    Statement (.setOffset p value) := some_ rfl (by simp [Machine.Request.payload])

theorem confirm (p : Pos) (id : Byte) :
    Statement (.confirm p id) := some_ rfl (by simp [Machine.Request.payload])

theorem withdraw (p : Pos) (id : Byte) :
    Statement (.withdraw p id) := some_ rfl (by simp [Machine.Request.payload])

theorem shiftZone (p : Pos) (zone : Byte) (offset : BitVec 16) (instant : BitVec 40) :
    Statement (.shiftZone p zone offset instant) := some_ rfl (by simp [Machine.Request.payload])

theorem configure (p : Pos) (param : Byte) (value : BitVec 32) :
    Statement (.configure p param value) := some_ rfl (by simp [Machine.Request.payload])

theorem setPosition (p : Pos) (target mode zone : Byte) :
    Statement (.setPosition p target mode zone) := some_ rfl (by simp [Machine.Request.payload])

theorem muteSourceMute (p : Pos) (target origin : Byte) :
    Statement (.muteSourceMute p target origin) := some_ rfl (by simp [Machine.Request.payload])

theorem muteSourceUnmute (p : Pos) (target origin : Byte) :
    Statement (.muteSourceUnmute p target origin) := some_ rfl (by simp [Machine.Request.payload])

theorem clearScale (p : Pos) :
    Statement (.clearScale p) := some_ rfl (by simp [Machine.Request.payload])

theorem rulesetStart (p : Pos) (length : BitVec 16) (units : Byte) (serial : BitVec 32) :
    Statement (.rulesetStart p length units serial) := some_ rfl (by simp [Machine.Request.payload])

theorem rulesetData (p : Pos) (bytes : List Byte) : Statement (.rulesetData p bytes) := by
  intro q r h w
  cases h
  simpa [Instr.wellFormed, payloadOk, Machine.Request.payload] using w

theorem rulesetFinish (p : Pos) :
    Statement (.rulesetFinish p) := some_ rfl (by simp [Machine.Request.payload])

theorem rulesetAbandon (p : Pos) :
    Statement (.rulesetAbandon p) := some_ rfl (by simp [Machine.Request.payload])

theorem rehearse (p : Pos) (span : BitVec 16) :
    Statement (.rehearse p span) := some_ rfl (by simp [Machine.Request.payload])

theorem rehearsalCancel (p : Pos) :
    Statement (.rehearsalCancel p) := some_ rfl (by simp [Machine.Request.payload])

theorem querySchedule (p : Pos) (index : Byte) :
    Statement (.querySchedule p index) := some_ rfl (by simp [Machine.Request.payload])

theorem querySource (p : Pos) (index : Byte) :
    Statement (.querySource p index) := some_ rfl (by simp [Machine.Request.payload])

theorem queryPosition (p : Pos) (index : Byte) :
    Statement (.queryPosition p index) := some_ rfl (by simp [Machine.Request.payload])

theorem queryHistory (p : Pos) (index : Byte) :
    Statement (.queryHistory p index) := some_ rfl (by simp [Machine.Request.payload])

theorem queryConfig (p : Pos) (index : Byte) :
    Statement (.queryConfig p index) := some_ rfl (by simp [Machine.Request.payload])

theorem queryZone (p : Pos) (index : Byte) :
    Statement (.queryZone p index) := some_ rfl (by simp [Machine.Request.payload])

theorem queryRuleset (p : Pos) (index : Byte) :
    Statement (.queryRuleset p index) := some_ rfl (by simp [Machine.Request.payload])

theorem queryRehearsal (p : Pos) (index : Byte) :
    Statement (.queryRehearsal p index) := some_ rfl (by simp [Machine.Request.payload])

end Sys2Proof.Laws.ParcelFits
end

