-- ==== Sys2Proof/Laws/Requests.lean ====
section
/-! SUPPORT. What each request, a frame's end and a boundary can change. -/

namespace Sys2Proof.Machine

set_option Elab.async false

theorem frame_refuse (but : List Block) (c : Code) (s : State) : Unchanged but s (refuse s c).1 :=
  Unchanged.refl but s

theorem frame_acceptSelf (but : List Block) (b : List Byte) (s : State) : Unchanged but s (accept s b).1 :=
  Unchanged.refl but s

theorem frame_accept {but : List Block} {s t : State} (b : List Byte) (h : Unchanged but s t) :
    Unchanged but s (accept t b).1 := h

theorem Unchanged.iteFst {α : Type} {but : List Block} {s : State} {c : Prop} [Decidable c] {x y : State × α}
    (h : Unchanged but s x.1) (k : Unchanged but s y.1) : Unchanged but s (if c then x else y).1 := by
  split <;> assumption

/-! ### Requests -/

theorem frame_takeView (leaving : Bool) (k : SourceKey) (v : View) (s : State) : Unchanged [.sources, .sched, .scale, .lanes] s (takeView leaving k v s).1 := by
  unfold takeView
  split
  · exact Unchanged.refl _ s
  · exact frame_accept _ (Unchanged.ite _ (frame_putLeaving _ _ _ s).mono (frame_prompt _ _ s))

theorem frame_announce (leaving : Bool) (p : Pos) (o d k : Byte) (i : Option (BitVec 40)) (s : State) : Unchanged [.sources, .sched, .scale, .lanes] s (announce leaving p o d k i s).1 := by
  unfold announce
  split
  · exact Unchanged.refl _ s
  · refine Unchanged.iteFst (Unchanged.refl _ s) (Unchanged.iteFst (Unchanged.refl _ s) ?_)
    split
    · exact Unchanged.refl _ s
    · exact frame_takeView _ _ _ s

theorem frame_muteSource (p : Pos) (q o : Byte) (m : Option Bool) (s : State) : Unchanged [.sources, .sched, .scale, .lanes] s (muteSource p q o m s).1 := by
  unfold muteSource
  refine Unchanged.iteFst (Unchanged.refl _ s) ?_
  split
  · split
    · split
      · exact Unchanged.refl _ s
      · dsimp only
        exact Unchanged.iteFst (frame_accept _ (frame_prompt _ _ s))
          (Unchanged.iteFst (frame_accept _ (frame_prompt _ _ s)) (frame_acceptSelf _ _ s))
    · exact Unchanged.refl _ s
  · exact Unchanged.refl _ s

theorem frame_setTime' (p : Pos) (x : BitVec 40) (s : State) : Unchanged [.time] s (setTime p x s).1 := by
  unfold setTime
  dsimp only
  refine Unchanged.iteFst (Unchanged.refl _ s) (Unchanged.iteFst (Unchanged.refl _ s) ?_)
  split
  · exact frame_accept _ (frame_setTime _ s)
  · exact Unchanged.iteFst (Unchanged.refl _ s) (frame_accept _ (frame_setTime _ s))

theorem frame_replaceBaselines (v : Nat) (s : State) : Unchanged [.sched, .scale, .lanes] s (s.replaceBaselines v) :=
  Unchanged.foldl _ (fun s r => Unchanged.ite _ (frame_withdraw r .replaced s) (Unchanged.refl _ s)) _ s

theorem frame_operatorBaseline (v : Nat) (s : State) : Unchanged [.sched] s (s.operatorBaseline v) := by
  unfold State.operatorBaseline
  dsimp only
  split
  · exact frame_updateRecord _ _ s
  · exact frame_place _ _ _ _ _ s

theorem frame_unlist (c : Change) (s : State) : Unchanged [.sched] s (s.unlist c) := frame_withSched _ s

theorem frame_placeOffset (v : Nat) (s : State) : Unchanged [.sched, .scale, .lanes] s (placeOffset v s).1 := by
  unfold placeOffset
  dsimp only
  have done (t : State) (h : Unchanged [.sched, .scale, .lanes] s t) :
      Unchanged [.sched, .scale, .lanes] s (((t.unlist (.baseline v)).operatorBaseline v).tally) :=
    ((h.trans (frame_unlist _ t).mono).trans (frame_operatorBaseline v _).mono).trans (frame_tally _)
  split
  · exact frame_accept _ (done _ (frame_replaceBaselines v s))
  · split
    · exact frame_accept _ <| done _ ((frame_replaceBaselines v s).trans (frame_withdraw _ _ _))
    · exact Unchanged.refl _ s

theorem frame_setOffset (p : Pos) (v : BitVec 16) (s : State) : Unchanged [.sched, .scale, .lanes] s (setOffset p v s).1 := by
  unfold setOffset
  dsimp only
  refine Unchanged.iteFst (Unchanged.refl _ s) (Unchanged.iteFst (Unchanged.refl _ s)
    (Unchanged.iteFst (Unchanged.refl _ s) (Unchanged.iteFst (Unchanged.iteFst ?_ (frame_acceptSelf _ _ s)) ?_)))
  · exact frame_accept _ (frame_withScale _ s).mono
  · split
    · exact frame_accept _ ((frame_updateRecord _ _ s).mono.trans (frame_tally _))
    · exact frame_placeOffset _ s

theorem frame_confirm (p : Pos) (id : Byte) (s : State) : Unchanged [.sched, .scale, .lanes] s (confirm p id s).1 := by
  unfold confirm
  refine Unchanged.iteFst (Unchanged.refl _ s) (Unchanged.iteFst ?_ ?_)
  · split
    · exact Unchanged.refl _ s
    · exact Unchanged.iteFst (frame_accept _ (frame_withScale _ s).mono) (frame_acceptSelf _ _ s)
  · split
    · exact Unchanged.refl _ s
    · exact Unchanged.iteFst (frame_accept _ ((frame_updateRecord _ _ s).mono.trans (frame_tally _)))
        (Unchanged.refl _ s)

theorem frame_withdrawRequest (p : Pos) (id : Byte) (s : State) : Unchanged [.sched, .scale, .lanes, .rules] s (withdrawRequest p id s).1 := by
  unfold withdrawRequest
  refine Unchanged.iteFst (Unchanged.refl _ s) (Unchanged.iteFst (Unchanged.refl _ s) ?_)
  split
  · exact Unchanged.refl _ s
  · refine Unchanged.iteFst (Unchanged.refl _ s) (Unchanged.iteFst (Unchanged.refl _ s) ?_)
    exact frame_accept _
      (((frame_withdraw _ _ s).mono.trans (frame_markSkipped _ _).mono).trans (frame_tally _).mono)

theorem frame_shiftZone (p : Pos) (z : Byte) (o : BitVec 16) (i : BitVec 40) (s : State) : Unchanged [.sched, .scale, .lanes, .rules] s (shiftZone p z o i s).1 := by
  unfold shiftZone
  dsimp only
  refine Unchanged.iteFst (Unchanged.refl _ s) (Unchanged.iteFst (Unchanged.refl _ s) ?_)
  split
  · exact Unchanged.refl _ s
  · refine Unchanged.iteFst (Unchanged.refl _ s) (Unchanged.iteFst (Unchanged.refl _ s) ?_)
    refine frame_accept _ (Unchanged.trans ?_ ((frame_place _ _ _ _ _ _).mono.trans (frame_tally _).mono))
    split
    · exact (frame_withdraw _ _ s).mono.trans (frame_markSkipped _ _).mono
    · exact Unchanged.refl _ s

theorem frame_configure (p : Pos) (k : Byte) (v : BitVec 32) (s : State) : Unchanged [.settings] s (configure p k v s).1 := by
  unfold configure
  refine Unchanged.iteFst (Unchanged.refl _ s) ?_
  split
  · dsimp only
    exact Unchanged.iteFst (Unchanged.refl _ s) (frame_accept _ (frame_setSettings _ s))
  · exact Unchanged.refl _ s

theorem frame_setPosition (p : Pos) (q m z : Byte) (s : State) : Unchanged [.roster] s (setPosition p q m z s).1 := by
  unfold setPosition
  split
  · dsimp only
    refine Unchanged.iteFst (Unchanged.refl _ s) ?_
    split
    · exact Unchanged.iteFst (Unchanged.refl _ s) (frame_accept _ (frame_setPos _ _ s))
    · exact Unchanged.refl _ s
  · exact Unchanged.refl _ s

theorem frame_clearScale (p : Pos) (s : State) : Unchanged [.scale] s (clearScale p s).1 := by
  exact Unchanged.iteFst (Unchanged.refl _ s) (frame_accept _ (frame_withScale _ s))

theorem frame_rulesetStart (p : Pos) (l : BitVec 16) (u : Byte) (n : BitVec 32) (s : State) : Unchanged [.loader] s (rulesetStart p l u n s).1 := by
  unfold rulesetStart
  split
  · exact Unchanged.refl _ s
  · dsimp only
    exact Unchanged.iteFst (Unchanged.refl _ s) (Unchanged.iteFst (Unchanged.refl _ s)
      (Unchanged.iteFst (Unchanged.refl _ s) (frame_accept _ (frame_withLoader _ s))))

theorem frame_rulesetData (p : Pos) (b : List Byte) (s : State) : Unchanged [.loader] s (rulesetData p b s).1 := by
  unfold rulesetData
  refine Unchanged.iteFst (Unchanged.refl _ s) (Unchanged.iteFst (Unchanged.refl _ s) ?_)
  split
  · exact Unchanged.refl _ s
  · exact Unchanged.iteFst (Unchanged.refl _ s) (frame_accept _ (frame_withLoader _ s))

theorem frame_rulesetFinish (p : Pos) (s : State) : Unchanged [.loader] s (rulesetFinish p s).1 := by
  unfold rulesetFinish
  split
  · exact Unchanged.refl _ s
  · exact Unchanged.iteFst (Unchanged.refl _ s) (frame_withLoader _ s)

theorem frame_rulesetAbandon (p : Pos) (s : State) : Unchanged [.loader] s (rulesetAbandon p s).1 := by
  unfold rulesetAbandon
  split
  · exact Unchanged.refl _ s
  · exact frame_accept _ (frame_idleLoader s)

theorem frame_rehearse (p : Pos) (n : BitVec 16) (s : State) : Unchanged [.rehearsal] s (rehearse p n s).1 := by
  unfold rehearse
  refine Unchanged.iteFst (Unchanged.refl _ s) ?_
  dsimp only
  split
  · exact Unchanged.iteFst (Unchanged.refl _ s) (Unchanged.iteFst (Unchanged.refl _ s)
      (Unchanged.iteFst (Unchanged.refl _ s) (Unchanged.iteFst (Unchanged.refl _ s)
        (frame_accept _ (frame_withRehearsal _ s)))))
  · exact Unchanged.refl _ s

theorem frame_rehearsalCancel (p : Pos) (s : State) : Unchanged [.lanes, .rehearsal] s (rehearsalCancel p s).1 := by
  exact Unchanged.iteFst (Unchanged.refl _ s) (Unchanged.iteFst (Unchanged.refl _ s)
    (frame_accept _ (frame_cancelRehearsal s)))

theorem frame_query (k i : Byte) (s : State) : Unchanged [] s (query k i s).1 := by
  unfold query
  split <;> exact Unchanged.refl _ s

/-- What a request of any kind can change. -/
theorem frame_perform (leaving : Bool) (p : Pos) (r : Request) (s : State) :
    Unchanged [.time, .sources, .sched, .scale, .lanes, .rules, .settings, .roster, .loader, .rehearsal] s
      (perform leaving p r s).1 := by
  cases r with
  | announce o d k i => exact (frame_announce leaving p o d k i s).mono
  | setTime x => exact (frame_setTime' p x s).mono
  | setOffset v => exact (frame_setOffset p v s).mono
  | confirm id => exact (frame_confirm p id s).mono
  | withdraw id => exact (frame_withdrawRequest p id s).mono
  | shiftZone z o i => exact (frame_shiftZone p z o i s).mono
  | configure k v => exact (frame_configure p k v s).mono
  | setPosition q m z => exact (frame_setPosition p q m z s).mono
  | muteSource q o a => exact (frame_muteSource p q o _ s).mono
  | clearScale => exact (frame_clearScale p s).mono
  | rulesetStart l u n => exact (frame_rulesetStart p l u n s).mono
  | rulesetData b => exact (frame_rulesetData p b s).mono
  | rulesetFinish => exact (frame_rulesetFinish p s).mono
  | rulesetAbandon => exact (frame_rulesetAbandon p s).mono
  | rehearse n => exact (frame_rehearse p n s).mono
  | rehearsalCancel => exact (frame_rehearsalCancel p s).mono
  | query k i => exact (frame_query k i s).mono

theorem frame_takeRequest (leaving : Bool) (p : Pos) (r : Request) (s : State) :
    Unchanged [.time, .sources, .sched, .scale, .lanes, .rules, .settings, .roster, .loader, .rehearsal] s
      (s.takeRequest leaving p r) := (frame_perform leaving p r s).trans (frame_owe p _ _).mono

theorem frame_takeRequests (leaving : List Pos) (l : List Arrived) (s : State) :
    Unchanged [.time, .sources, .sched, .scale, .lanes, .rules, .settings, .roster, .loader, .rehearsal] s
      (s.takeRequests leaving l) :=
  Unchanged.foldl _ (fun s (a : Arrived) => Unchanged.ite _ (frame_takeRequest _ a.1 a.2 s) (Unchanged.refl _ s)) l s

theorem frame_deliver (p : Pos) (r : Request) (s : State) :
    Unchanged [.time, .sources, .sched, .scale, .lanes, .rules, .settings, .roster, .loader, .rehearsal, .moment,
      .store] s (s.deliver p r) := by
  unfold State.deliver
  refine Unchanged.ite _ ?_ (Unchanged.refl _ s)
  refine Unchanged.trans ?_ (frame_finish _).mono
  refine Unchanged.trans ?_ (frame_takeRequest _ p r _).mono
  exact (frame_nextMoment s).mono.trans (frame_passBytes p _ _).mono

/-! ### Boundaries -/

/-- A boundary changes everything but the lines' levels, the clock's course and the queue; of the pins it counts the
boundaries that find VBAK low. -/
theorem frame_boundary (s : State) : Unchanged [.pins, .time, .labels, .sources, .sched, .scale, .rehearsal, .roster,
    .zones, .rules, .loader, .lanes, .settings, .store, .bus, .moment] s s.boundary := by
  unfold State.boundary
  dsimp only
  refine Unchanged.trans ?_ (frame_latch _).mono
  refine Unchanged.trans ?_ (frame_finish _).mono
  refine Unchanged.trans ?_ (frame_beginSecond _).mono
  refine Unchanged.trans ?_ (frame_checkBackup _).mono
  refine Unchanged.trans ?_ (frame_boundaryLabels _).mono
  refine Unchanged.trans ?_ (frame_boundaryRoster _ _).mono
  refine Unchanged.trans ?_ (frame_boundaryArm _ _).mono
  refine Unchanged.trans ?_ (frame_tally _).mono
  refine Unchanged.trans ?_ (frame_drawPass _ _).mono
  refine Unchanged.trans ?_ (frame_boundaryVerify _).mono
  refine Unchanged.trans ?_ (frame_boundaryScale _ _).mono
  refine Unchanged.trans ?_ (frame_boundarySources _ _ _).mono
  refine Unchanged.trans ?_ (frame_boundaryMove _ _ _).mono
  exact (frame_nextMoment s).mono.trans (frame_boundaryInputs _).mono

theorem frame_realign (p : Nat) (s : State) : Unchanged [.pins, .time, .labels, .sources, .sched, .scale, .rehearsal,
    .roster, .zones, .rules, .loader, .lanes, .settings, .store, .bus, .moment] s (s.realign p) := by
  unfold State.realign
  dsimp only
  refine Unchanged.trans ?_ (frame_boundary _).mono
  refine Unchanged.trans ?_ (frame_noteSlip p _).mono
  refine Unchanged.trans ?_ (frame_setTime _ _).mono
  refine Unchanged.trans ?_ (frame_resetLanes _).mono
  exact (frame_nextMoment s).mono.trans (frame_rollCalls _).mono

/-! ### The end of a frame -/

theorem frame_departures (prompted : Bool) (gone : List Pos) (s : State) :
    Unchanged [.sources, .sched, .scale, .lanes, .loader] s (s.departures prompted gone) := by
  have h : Unchanged [.sources, .sched, .scale, .lanes, .loader] s
      (gone.foldl (fun s p => ((s.clearLane p).departSources p).departLoader p) s) :=
    Unchanged.foldl _ (fun s p => ((frame_clearLane p s).mono.trans (frame_departSources p _).mono).trans
      (frame_departLoader p _).mono) _ s
  exact Unchanged.ite _ (h.trans (frame_tally _).mono) h

theorem frame_frameRoster (segs : List (BitVec 48)) (s before : State) :
    Unchanged [.sources, .sched, .scale, .lanes, .loader, .roster] s (s.frameRoster segs before) := by
  unfold State.frameRoster
  dsimp only
  exact ((frame_setRoster _ s).mono.trans (frame_departures _ _ _).mono).trans
    (Unchanged.foldl _ (fun s p => (frame_noteSlot p s).mono) _ _)

theorem frame_frameEvents (segs : List (BitVec 48)) (s before : State) :
    Unchanged [.sources, .sched, .scale, .lanes, .loader, .roster, .time, .rehearsal] s
      (s.frameEvents segs before) := by
  unfold State.frameEvents
  refine Unchanged.trans ?_ (frame_expireLoader _).mono
  refine Unchanged.trans ?_ (frame_frameRehearsal _).mono
  refine Unchanged.trans ?_ (frame_arbitrate _).mono
  exact (frame_frameRoster segs s before).mono.trans (frame_setTime _ _).mono

theorem frame_answerForms (l : List (Pos × Byte × List Byte)) (s : State) :
    Unchanged [.lanes] s (s.answerForms l) := by
  refine Unchanged.foldl _ (fun s a => ?_) _ s
  split
  · exact Unchanged.refl _ s
  · exact frame_owe _ _ s

theorem frame_frameWork (segs : List (BitVec 48)) (order : FrameOrder) (s : State) :
    Unchanged [.time, .sources, .sched, .scale, .lanes, .rules, .settings, .roster, .loader, .rehearsal] s
      (s.frameWork segs order) := by
  unfold State.frameWork
  dsimp only
  refine Unchanged.trans ?_ (frame_setTime _ _).mono
  refine Unchanged.trans ?_ (frame_settleLoader _).mono
  refine Unchanged.trans ?_ (frame_takeRequests _ _ _)
  refine Unchanged.trans ?_ (frame_takeRequests _ _ _)
  have h : Unchanged [.time, .sources, .sched, .scale, .lanes, .rules, .settings, .roster, .loader, .rehearsal] s
      (((s.hearLanes segs).answerForms (s.arrivals segs)).tickLoader) :=
    ((frame_setLanes _ s).mono.trans (frame_answerForms _ _).mono).trans (frame_tickLoader _).mono
  exact Unchanged.andIte h ((frame_takeRequests _ _ _).trans (frame_frameEvents _ _ _).mono)
    ((frame_frameEvents _ _ _).mono.trans (frame_takeRequests _ _ _))

/-- What a frame's end can change, no boundary being due. -/
theorem frame_frameEnd (segs : List (BitVec 48)) (order : FrameOrder) (s : State) (h : s.time.due = .nothing) :
    Unchanged [.time, .sources, .sched, .scale, .lanes, .rules, .settings, .roster, .loader, .rehearsal, .store, .bus,
      .moment] s (frameEnd segs order s) := by
  have e : s.settle = s := by simp [State.settle, h]
  unfold frameEnd
  rw [e]
  refine Unchanged.ite _ ?_ (Unchanged.refl _ s)
  exact ((frame_nextMoment s).mono.trans (frame_frameWork segs order _).mono).trans (frame_openFrame _).mono

end Sys2Proof.Machine
end

