-- ==== Sys2Proof/Laws/Settled.lean ====
section
/-! SUPPORT. The end of an event: a settled state, and what an event that touches no board leaves. -/

namespace Sys2Proof.Machine

set_option Elab.async false

/-! ### Offers on a board -/

/-- A board holds the offer. -/
def hasOffer (b : List BoardEntry) : Bool := b.any fun e => e.notice.isOffer

theorem any_insertBy {α : Type} (le : α → α → Bool) (f : α → Bool) (x : α) (l : List α) :
    (insertBy le x l).any f = (f x || l.any f) := by
  induction l with
  | nil => simp [insertBy]
  | cons y ys ih =>
    simp only [insertBy]
    split
    · simp
    · simp [ih, Bool.or_left_comm]

theorem any_dropFirst {α : Type} (f g : α → Bool) (h : ∀ x, f x = true → g x = false) (l : List α) :
    (dropFirst f l).any g = l.any g := by
  induction l with
  | nil => rfl
  | cons x xs ih =>
    simp only [dropFirst]
    split
    · next k => simp [h x k]
    · simp [ih]

theorem givesWay_offer (k : Nat) (e : BoardEntry) (h : e.givesWay k = true) : e.notice.isOffer = false := by
  simp [BoardEntry.givesWay] at h
  exact h.1

theorem hasOffer_trimBoard (b : List BoardEntry) : hasOffer (trimBoard b) = hasOffer b := by
  unfold trimBoard hasOffer
  split
  · rfl
  · split
    · exact any_dropFirst _ _ (givesWay_offer 0) b
    · split
      · exact any_dropFirst _ _ (givesWay_offer 1) b
      · exact any_dropFirst _ _ (givesWay_offer 2) b

theorem sameKey_offer (n : Notice) : Notice.sameKey .offer n = n.isOffer := by
  cases n <;> simp [Notice.sameKey, Notice.code, Notice.subject, Notice.isOffer]

theorem hasOffer_queueOffer (m : Nat) (b : List BoardEntry) (h : hasOffer b = false) :
    hasOffer (queueOn m .offer b) = true := by
  have k : (b.filter fun e => !clearsArmed .offer e) = b := by simp [clearsArmed]
  unfold queueOn
  simp only [k, sameKey_offer]
  rw [if_neg (by simpa [hasOffer] using h), hasOffer_trimBoard]
  simp [hasOffer, any_insertBy, Notice.isOffer]

/-! ### Settled states -/

@[simp] theorem lane_refreshOffers (s : State) (p : Pos) :
    s.refreshOffers.lane p =
      if s.wantsOffer p then
        if hasOffer (s.lane p).board then s.lane p else (s.lane p).enqueue s.moment .offer
      else { s.lane p with board := (s.lane p).board.filter fun e => !e.notice.isOffer } := by
  simp [State.refreshOffers, State.lane, hasOffer]

/-- R113: every board holds an offer exactly where one is wanted. -/
def State.offersRight (s : State) : Prop := ∀ p, hasOffer (s.lane p).board = s.wantsOffer p

theorem refreshOffers_offersRight (s : State) : s.refreshOffers.offersRight := by
  intro p
  show hasOffer (s.refreshOffers.lane p).board = s.wantsOffer p
  rw [lane_refreshOffers]
  cases h : s.wantsOffer p
  · simp [hasOffer]
  · simp only [if_true]
    split
    · next k => exact k
    · next k => exact hasOffer_queueOffer _ _ (by simpa using k)

theorem State.refreshOffers_of_right {s : State} (h : s.offersRight) : s.refreshOffers = s := by
  have k : s.refreshOffers.lanes = s.lanes := by
    apply Tab.ext_get
    intro p
    have e : s.refreshOffers.lanes.get p = s.refreshOffers.lane p := rfl
    rw [e, lane_refreshOffers]
    have hp := h p
    cases w : s.wantsOffer p
    · have : ((s.lane p).board.filter fun e => !e.notice.isOffer) = (s.lane p).board := by
        rw [List.filter_eq_self]
        intro x hx
        rw [w] at hp
        simp only [hasOffer, List.any_eq_false] at hp
        simpa using hp x hx
      simp only [Bool.false_eq_true, if_false, this]
      rfl
    · rw [w] at hp
      simp only [if_true, hp]
      rfl
  calc s.refreshOffers = { s with lanes := s.refreshOffers.lanes } := rfl
    _ = s := by rw [k]

theorem State.settled_iff (s : State) : s.settled ↔ s.offersRight ∧ s.store.copy = s.image := by
  constructor
  · rintro ⟨h, k⟩
    exact ⟨h ▸ refreshOffers_offersRight s, k⟩
  · rintro ⟨h, k⟩
    exact ⟨State.refreshOffers_of_right h, k⟩

/-- R113, R176: an event ends settled. -/
theorem State.settled_finish (s : State) : s.finish.settled := by
  rw [State.settled_iff]
  exact ⟨refreshOffers_offersRight s, rfl⟩

/-- An event that leaves the offers right and no retained item changed leaves nothing to do at its end. -/
theorem State.finish_of {s : State} (h : s.offersRight) (k : s.store.copy = s.image) : s.finish = s := by
  unfold State.finish
  rw [State.refreshOffers_of_right h]
  show { s with store := { s.store with copy := s.image } } = s
  rw [← k]

/-! ### Requests -/

/-- R165: the lane after a request is judged and answered. -/
theorem lane_owe (p q : Pos) (r : Response) (s : State) :
    (s.owe p r).lane q = if p = q then (s.lane p).owe r else s.lane q := by
  simp [State.owe, State.lane, State.setLane, Tab.get_put]

theorem lane_judged (p q : Pos) (r : Request) (s : State) :
    (s.judged p r).lane q =
      if p = q then
        { s.lane p with take := if r.payload.length % 2 = 1 then !(s.lane p).take else (s.lane p).take }
      else s.lane q := by
  have : (2 + r.payload.length) % 2 = r.payload.length % 2 := by omega
  simp [State.judged, State.passBytes, State.nextMoment, State.lane, State.setLane, Tab.get_put, this]

theorem frame_judged (p : Pos) (r : Request) (s : State) : Unchanged [.lanes, .moment] s (s.judged p r) := by
  intro b hb; cases b <;> first | rfl | exact absurd (by decide) hb

/-- A request that position `p` can send is judged, and its answer owed. -/
theorem State.deliver_eq {p : Pos} {r : Request} {s : State} (h : s.hears p = true) (k : r.payload.length ≤ 30) :
    s.deliver p r = ((s.judged p r).takeRequest false p r).finish := by
  simp [State.deliver, h, k, State.judged]

/-- A request that leaves every board and every retained item: its sender's lane owes the answer, and nothing is left
to do at the end of the event. -/
theorem State.deliver_quiet {p : Pos} {r : Request} {s u : State} {a : Reply} (hs : s.settled)
    (h : s.hears p = true) (k : r.payload.length ≤ 30) (e : perform false p r (s.judged p r) = (u, a))
    (boards : ∀ q, (u.lane q).board = (s.lane q).board) (wants : ∀ q, u.wantsOffer q = s.wantsOffer q)
    (image : u.image = s.image) (store : u.store = s.store) :
    s.deliver p r = u.owe p (r.response a) := by
  rw [State.deliver_eq h k, State.takeRequest, e]
  rw [State.settled_iff] at hs
  apply State.finish_of
  · intro q
    rw [lane_owe]
    have : hasOffer (u.lane q).board = u.wantsOffer q := by rw [boards, wants]; exact hs.1 q
    split
    · next x => subst x; exact this
    · exact this
  · show u.store.copy = u.image
    rw [image, store]
    exact hs.2

/-- R167: a request that is answered without a change leaves the lane of its sender HELD and nothing else changed. -/
theorem State.deliver_refused {p : Pos} {r : Request} {s : State} {a : Reply} (hs : s.settled)
    (h : s.hears p = true) (k : r.payload.length ≤ 30) (e : perform false p r (s.judged p r) = (s.judged p r, a)) :
    s.deliver p r = (s.judged p r).owe p (r.response a) := by
  apply State.deliver_quiet hs h k e
  · intro q
    rw [lane_judged]
    split
    · next x => subst x; rfl
    · rfl
  · intro q; rfl
  · rfl
  · rfl

end Sys2Proof.Machine
end

