-- ==== Sys2Proof/Laws/Tally.lean ====
section
/-! SUPPORT. What a tally counts: the counts over its voters are the sums over the entries of the Source Table. -/

namespace Sys2Proof.Machine

set_option Elab.async false

/-- An entry adds to a count what its voter weighs. -/
theorem weightOf_voter (s : State) (f : Voter → Bool) (g : Fin 16 → EffView → Bool) (i : Fin 16)
    (h : ∀ v, s.voter i = some v → f v = g i v.view) : weightOf f (s.voter i).toList = s.addsTo g i := by
  unfold State.voter at h ⊢
  simp only [Source.effective, State.addsTo] at h ⊢
  rcases hs : (s.source i).state <;> rcases hk : (s.source i).key with _ | k <;>
    rcases hv : (s.source i).vouched with _ | v <;> simp only [hs, hk, hv, Option.map] at h ⊢ <;> try rfl
  have hw : s.weight k.origin = s.originWeight k.origin := by cases k.origin <;> rfl
  rw [← hw]
  by_cases h0 : s.weight k.origin = 0
  · simp [h0, weightOf]
  · simp only [h0, if_false] at h ⊢
    have := h _ rfl
    simp only at this
    simp [weightOf]
    split <;> simp_all

/-- A count over the voters is the sum of what the entries add to it. -/
theorem weightOf_voters (s : State) (f : Voter → Bool) (g : Fin 16 → EffView → Bool)
    (h : ∀ i v, s.voter i = some v → f v = g i v.view) : weightOf f s.voters = s.sumOf g := by
  have all (l : List (Fin 16)) : weightOf f (l.filterMap s.voter) = (l.map (s.addsTo g)).sum := by
    induction l with
    | nil => rfl
    | cons i l ih =>
      rw [List.map_cons, List.sum_cons, ← ih, ← weightOf_voter s f g i (h i)]
      cases hv : s.voter i
      · simp [hv, weightOf]
      · simp only [hv, weightOf, List.filterMap_cons, Option.toList, List.filter_cons]; split <;> simp
  exact all allEntries

/-- A voter carries the trailing mark of its entry. -/
theorem voter_marked {s : State} {i : Fin 16} {v : Voter} (h : s.voter i = some v) :
    v.marked = s.sched.marks.get i := by
  unfold State.voter at h
  simp only at h
  split at h
  · split at h
    · cases h
    · cases h; rfl
  · cases h

/-- R58: the vouch tally of a change. -/
theorem vouchTally_voters (s : State) (c : Change) : vouchTally s.voters s.scale.d c = s.vouches c := by
  refine weightOf_voters s _ _ fun i v hv => ?_
  cases c with
  | leap k e => cases hd : s.scale.d <;> simp [Voter.backs, State.countsFor, hd]
  | baseline x =>
    simp only [Voter.backs, State.countsFor, voter_marked hv]
    by_cases h : v.view.ds = x
    · subst h; simp [Bool.and_comm]
    · simp [h]
  | shift _ _ _ => simp [Voter.backs, State.countsFor]

/-- R58: the agreement tally. -/
theorem agreement_voters (s : State) : weightOf (Voter.agrees s.scale.d) s.voters = s.agrees :=
  weightOf_voters s _ _ fun _ _ _ => rfl

/-- R57: the steps that follow the judgement's state. -/
theorem tally_of_weighed (s : State) :
    s.tally = (((s.weighed.tallyQualify s.voters).tallyOppose).tallyRelease s.voters) := rfl

end Sys2Proof.Machine
end

