-- ==== Sys2Proof/Tests/Slice0.lean ====
section
/-! SUPPORT. Tests: the ill-formed commands, one-step checks whose results are taken from the data book, and a witness
for the hypotheses of each statement that has some. -/

namespace Sys2Proof.Tests

set_option Elab.async false

open Sys2Proof Sys2Proof.Machine

/-! ### Well-formedness: an ill-formed command for each check -/

theorem smoke_segments : Instr.wellFormed (.frameEnd (List.replicate 13 0) {}) = false ∧
    Instr.wellFormed (.frameEnd (List.replicate 12 0) {}) = true := by decide +kernel
theorem smoke_order : Instr.wellFormed (.frameEnd [] { lanes := [1, 1] }) = false ∧
    Instr.wellFormed (.frameEnd [] { lanes := [1, 0] }) = true := by decide +kernel
theorem smoke_payload : Instr.wellFormed (.rulesetData 0 (List.replicate 31 0)) = false ∧
    Instr.wellFormed (.rulesetData 0 (List.replicate 30 0)) = true := by decide +kernel
theorem smoke_unknownKind : Instr.wellFormed (.unknownKind 0 0x77 (List.replicate 31 0)) = false := by decide +kernel
theorem smoke_badForm : Instr.wellFormed (.badForm 0 []) = false ∧
    Instr.wellFormed (.badForm 0 [0x77]) = true := by decide +kernel

/-! ### Formats, from the tables of 12_formats.md -/

/-- R143 gives this check value. -/
theorem test_crc : crc32 [0x31, 0x32, 0x33, 0x34, 0x35, 0x36, 0x37, 0x38, 0x39] = 0xCBF43926 := by decide +kernel

/-- R183, the card segment bit by bit: intent FOLLOWING, role LEAD, mark, held 7, ready 5, lane byte 0x11, offer, take. -/
theorem test_cardSegment : readSegment 0b001010100000111010100010001101000000000000000000 =
    { intent := 2, role := 2, mark := true, held := 7, ready := 5, laneByte := 0x11,
      offer := true, last := false, take := true } := by decide +kernel

/-- R185: SET_TIME 256; WITHDRAW 9; an ANNOUNCE without an instant; a QUERY of a payload too short. -/
theorem test_parse :
    Request.parse 0x11 [0, 0, 0, 1, 0] = .ok (.setTime 256) ∧ Request.parse 0x14 [9] = .ok (.withdraw 9) ∧
    Request.parse 0x10 [1, 37, 0] = .ok (.announce 1 37 0 none) ∧ Request.parse 0x30 [3] = .error .badForm ∧
    Request.parse 0x31 [3, 0] = .error .unknownKind := by decide +kernel

/-! ### States to test on -/

/-- A card in step: following, generation 0 held, each field qualified. -/
def card (role : Role) : Position :=
  { Position.initial .step 0 with
    state := .inStep, intent := .following, role := role, held := some 0
    sIntent := ⟨some .following, 3⟩, sRole := ⟨some role, 3⟩, sHeld := ⟨some 0, 3⟩, sReady := ⟨some 0, 3⟩ }

/-- Controller A in position 0 with the lead, a line card in position 2; T and D as given. -/
def device (t d : Option Nat) : State :=
  let s := State.reset
  let roster := (s.roster.put 0 (card .lead)).put 2 (card .none)
  ({ s with roster := roster, time := { s.time with holder := some .a, t := t },
            scale := { s.scale with d := d } }).sync

/-- The device at T 90000 with D 37. -/
def ready : State := device (some 90000) (some 37)

/-- Its Time Base changed. -/
def withTime (f : TimeBase → TimeBase) (s : State) : State := { s with time := f s.time }

/-- The device at frame `n`. -/
def atFrame (n : Nat) : State := withTime (fun b => { b with frame := n }) ready

/-- An INSERT at the end of UTC day 0, with D 37: affected second 86437, instant 86438 (R18). -/
def leapRecord (state : RecordState) : Record :=
  { id := 1, change := .leap .insert 1, affected := some 86437, origin := .sources, state := state,
    preContest := none, vouch := 4, oppose := 0, restored := false, late := false
    tag := if state = .armed then some 1 else none
    window := if state = .armed then some ⟨85537, 86438, 901, 37, 38⟩ else none
    created := some 500, ref := none, roll := none }

/-- A record of change `c`, HELD or QUALIFIED, that affects second `a`. -/
def plainRecord (id : Nat) (c : Change) (a : Option Nat) (origin : RecordOrigin) (state : RecordState) : Record :=
  { id := id, change := c, affected := a, origin := origin, state := state, preContest := none, vouch := 4,
    oppose := 0, restored := false, late := false, tag := none, window := none, created := some 500, ref := none,
    roll := none }

/-- The device with these records. -/
def withRecords (l : List Record) (s : State) : State := ({ s with sched := { s.sched with records := l } }).sync

/-- The device at T 86436, with the leap armed as group 1 for the next boundary. -/
def armed : State :=
  let s := device (some 86436) (some 37)
  withRecords [leapRecord .armed] { s with scale := { s.scale with groups := [⟨86437, 1, none⟩] } }

/-- The device at T 86436 and D `d`, with a record of change `c` armed for the next boundary. -/
def applying (c : Change) (d : Nat) : State :=
  let s := device (some 86436) (some d)
  withRecords [{ leapRecord .armed with change := c }] { s with scale := { s.scale with groups := [⟨86437, 1, none⟩] } }

/-- The state after a command. -/
def after (c : Instr) (s : State) : State :=
  match exec c s with
  | .next t => t
  | _ => s

/-- The response that position `p` is owed after a command. -/
def owedTo (p : Pos) (s : State) (c : Instr) : Option (Code × List Byte) :=
  ((after c s).lane p).owed.map fun r => (r.code, r.content)

/-- Its code. -/
def codeOf (p : Pos) (s : State) (c : Instr) : Option Code := (owedTo p s c).map Prod.fst

theorem ready_settled : ready.settled := by unfold State.settled; decide +kernel
theorem ready_hears : ready.hears 0 = true ∧ ready.hears 2 = true ∧ ready.holdsLead 0 = true := by decide +kernel
theorem ready_fits : ready.recordsFit := by unfold State.recordsFit changesFit idsFit; decide +kernel
theorem armed_settled : armed.settled ∧ armed.hears 0 = true := by unfold State.settled; decide +kernel
theorem armed_fields : armed.fieldsFit := by unfold State.fieldsFit Record.fitsLayout; decide +kernel
theorem armed_fits : armed.recordsFit := by unfold State.recordsFit changesFit idsFit; decide +kernel

/-! ### Power, clock, frames, seconds -/

theorem test_startUp : after .startUp State.reset = State.reset := by decide +kernel
/-- R179: a restored D is provisional; T is unknown. -/
theorem test_startUp_restores :
    let t := after .startUp ready
    t.scale.d = some 37 ∧ t.scale.provisional = true ∧ t.time.t = none ∧ (t.pos 0).state = .empty := by
  decide +kernel
theorem test_resetAssert :
    let t := after (.resetAssert 100) ready
    t.pins.rstn = false ∧ t.time.busClock = 100 ∧ t.store.good = true := by decide +kernel
theorem test_mainPowerLoss : (after .mainPowerLoss ready).running = false := by decide +kernel
theorem test_vbakLow : (after (.vbakLow 2) ready).store.good = false := by decide +kernel
theorem test_refclkStop : (after (.refclkStop 7) ready).running = false ∧
    (after (.refclkStop 7) ready).time.busClock = 7 := by decide +kernel
theorem test_refclkResume : after .refclkResume (after (.refclkStop 0) ready) = ready := by decide +kernel

/-- R1: the frame index counts to 999; the boundary follows frame 999. -/
theorem test_frameEnd_counts :
    (after (.frameEnd [] {}) (atFrame 998)).time.frame = 999 ∧
    (after (.frameEnd [] {}) (atFrame 999)).time.due = .second := by decide +kernel
/-- R101, R102: the third equal intent PRESENT qualifies, and an EMPTY position goes JOINING. -/
theorem test_frameEnd_joins :
    let x : Position := { Position.initial .step 0 with sIntent := ⟨some .present, 2⟩ }
    let s : State := { ready with roster := ready.roster.put 1 x }
    let segs : List (BitVec 48) := [BitVec.allOnes 48, 0x1000FFFFFFFF]
    ((after (.frameEnd segs {}) s).pos 1).state = .joining := by decide +kernel

/-- The device with controller A's tracker as given. -/
def tracked (k : Tracker) : State := withTime (fun b => { b with trackerA := k }) ready

/-- R7: the third miss in a row enters FLYWHEEL; R148: the frame in progress does not show it. -/
theorem test_markMiss :
    let k : Tracker := { mode := .aligned, candidate := some 0, run := 4, misses := 2, interval := 1000, lastBit := false }
    ((after (.markMiss .a) (tracked k)).time.tracker .a).mode = .flywheel ∧
    (after (.markMiss .a) (tracked k)).bus = (tracked k).bus := by decide +kernel

/-- R2, R23: T 90001 with D 37 is day 1, second 3564. -/
theorem test_secondBoundary :
    let t := after .secondBoundary ready
    t.time.t = some 90001 ∧ t.time.frame = 0 ∧ t.labels.day = 1 ∧ t.labels.second = 3564 := by decide +kernel
/-- R24, R80, R82: the inserted second is second 86400 of day 0; D is raised at its end. -/
theorem test_secondBoundary_inserts :
    let t := after .secondBoundary armed
    t.scale.d = some 37 ∧ t.scale.g = 1 ∧ t.labels.day = 0 ∧ t.labels.second = 86400 ∧ t.labels.inserting = true ∧
      (after .secondBoundary t).scale.d = some 38 := by decide +kernel

/-- A source entry of controller A, heard of last `n` boundaries ago. -/
def entry (state : SourceState) (n : Nat) : Source :=
  { Source.initial with key := some ⟨0, .network⟩, state := state, run := 1, candidate := some ⟨37, none⟩, silence := n }

/-- The device with one source. -/
def withSource (e : Source) : State := { ready with sources := ready.sources.put 0 e }

/-- R42: silent for the staleness limit, 300 by default. -/
theorem test_stale :
    ((after (.stale 0) (withSource (entry .listening 299))).source 0).state = .stale ∧
    ((after (.stale 0) (withSource (entry .listening 298))).source 0).state = .listening := by decide +kernel

/-- The device with the line card as given. -/
def withCard (x : Position) : State := { ready with roster := ready.roster.put 2 x }

theorem test_takeCheckDue :
    ((after (.takeCheckDue 2) (withCard { card .none with held := some 9, takeCheck := some 1 })).pos 2).state =
      .lagging ∧
    ((after (.takeCheckDue 2) (withCard { card .none with takeCheck := some 1 })).pos 2).state = .inStep := by
  decide +kernel
/-- R110, R169: the lag limit is 10 by default. -/
theorem test_lagLimit :
    ((after (.lagLimitReached 2) (withCard { card .none with state := .lagging, lag := 9 })).pos 2).state = .dropped ∧
    ((after (.lagLimitReached 2) (withCard { card .none with state := .lagging, lag := 8 })).pos 2).state = .lagging := by
  decide +kernel
/-- R90, R107: the roll call of the group of the next second; a card that shows another ready tag lags. -/
theorem test_quietFrames :
    let t := after .quietFrames armed
    t.time.frame = 980 ∧ (t.pos 0).state = .lagging ∧ t.scale.groups.map (fun g => g.roll.isSome) = [true] := by
  decide +kernel
/-- R9: the frame that would have been frame 500 is frame 0 of a new second. -/
theorem test_realignment :
    let k : Tracker := { mode := .aligned, candidate := some 500, run := 4, misses := 0, interval := 999, lastBit := false }
    let t := after .realignment (tracked k)
    t.time.t = some 90001 ∧ t.time.frame = 0 ∧ (t.time.tracker .a).candidate = some 0 := by decide +kernel

/-- The device at T 90000 with a rehearsal of span 20 in this phase, for the second `a`. -/
def rehearsing (phase : Phase) (a : Nat) : State :=
  { ready with rehearsal := { Rehearsal.initial with
      phase := phase, span := 20, requester := some .a
      tag := if phase = .pending then none else some 1
      armedAt := if phase = .pending then none else some 89990
      affected := if phase = .pending then none else some a } }

/-- The device with the Loader of controller A as given. -/
def withLoader (state : LoaderState) (length timer : Nat) (buffer : List Byte) : State :=
  { ready with loader := { state := state, claimer := some .a, length := length, serial := 5, buffer := buffer,
                           timer := timer, fresh := false } }

/-- R139: RULESET_TIMEOUT with the serial and the pointer. -/
theorem test_loadTimedOut :
    let t := after .loadTimedOut (withLoader .loading 12 1 [7])
    t.loader = Loader.initial ∧ (t.lane 0).board.map (fun e => e.notice) = [.rulesetTimeout 5 1] := by decide +kernel

/-! ### Lanes -/

/-- The device with position 0's lane as given. -/
def withLane (l : Lane) (s : State) : State := { s with lanes := s.lanes.put 0 l }

/-- A lane that owes ACCEPTED to a WITHDRAW: a parcel of kind, length and payload. -/
def owing : Lane := { Lane.initial with inbound := .held, owed := some ⟨.accepted, 0x14, 0, [], false⟩ }

/-- R154, R173: a parcel begins only where it ends before frame 980: 4 bytes begin in frame 968, and not in frame 969;
and in frame 0 none begins. -/
theorem test_transferBegin :
    [0, 5, 968, 969].map (fun f => ((after (.transferBegin 0) (withLane owing (atFrame f))).lane 0).sending.map
      fun x => x.bytes) = [none, some [0x40, 2, 0, 0x14], some [0x40, 2, 0, 0x14], none] := by decide +kernel
theorem test_transferComplete :
    let l : Lane := { owing with sending := some ⟨[0x80, 0], 1, .response⟩, offer := true }
    ((after (.transferComplete 0) (withLane l ready)).lane 0).inbound = .opened ∧
    ((after (.transferComplete 0) (withLane l ready)).lane 0).owed = none ∧
    after (.transferComplete 0) (withLane l (atFrame 980)) = withLane l (atFrame 980) := by decide +kernel
/-- R164: a length byte of 1 with no payload; a length byte of 31. -/
theorem test_badForm :
    owedTo 2 ready (.badForm 2 [0x14, 1]) = some (.badForm, [0x14]) ∧
    owedTo 2 ready (.badForm 2 [0x77, 31, 0]) = some (.badForm, [0x77]) ∧
    owedTo 2 ready (.badForm 2 [0x14, 1, 9]) = none := by decide +kernel
theorem test_unknownKind : codeOf 2 ready (.unknownKind 2 0x77 []) = some .unknownKind ∧
    codeOf 2 ready (.unknownKind 2 0x14 [9]) = none := by decide +kernel

/-! ### Requests, at the ends of the ranges that their rules name -/

/-- R35, R20: an unknown origin; OPERATOR from a line card; kind 3; D_s 255 with INSERT; a sound INSERT instant with
D_s 37, and one second off; a line card may announce from another origin. -/
theorem test_announce :
    [Instr.announce 0 3 37 0 none, .announce 0 2 37 0 none, .announce 0 0 37 3 none, .announce 0 0 255 1 none,
      .announce 0 0 254 1 none, .announce 0 0 0 2 none, .announce 0 0 1 2 none,
      .announce 0 0 37 1 (some 86438), .announce 0 0 37 1 (some 86437)].map (codeOf 0 ready) =
      [some .outOfRange, some .accepted, some .outOfRange, some .outOfRange, some .accepted, some .outOfRange,
        some .accepted, some .accepted, some .outOfRange] ∧
    codeOf 2 ready (.announce 2 2 37 0 none) = some .notPermitted ∧
    owedTo 2 ready (.announce 2 1 37 0 none) = some (.accepted, [0, 1, 1]) := by decide +kernel
/-- R21: T 90000 with D_s 37 lies in UTC day 1, so the inferred day is 2. -/
theorem test_announce_infers :
    ((after (.announce 0 0 37 1 none) ready).source 0).candidate = some ⟨37, some ⟨.insert, 2, true⟩⟩ := by
  decide +kernel
/-- R16: the range, the lead, and a re-time with a group's countdown of 2 or less. -/
theorem test_setTime :
    [255, 256, 2 ^ 40 - 2, 2 ^ 40 - 1].map (fun x => codeOf 0 ready (.setTime 0 (BitVec.ofNat 40 x))) =
      [some .outOfRange, some .accepted, some .accepted, some .outOfRange] ∧
    codeOf 2 ready (.setTime 2 300) = some .notPermitted ∧
    [86437, 86438].map (fun x => codeOf 0 armed (.setTime 0 (BitVec.ofNat 40 x))) = [some .accepted, some .busy] := by
  decide +kernel
/-- R75. -/
theorem test_setOffset :
    [37, 255, 256].map (fun x => codeOf 0 ready (.setOffset 0 (BitVec.ofNat 16 x))) =
      [some .accepted, some .accepted, some .outOfRange] ∧
    codeOf 0 armed (.setOffset 0 38) = some .busy ∧
    (after (.setOffset 0 38) ready).records.map (fun r => (r.change, r.state, r.origin)) =
      [(.baseline 38, .qualified, .operator)] := by decide +kernel
/-- R74. -/
theorem test_confirm :
    let s := withRecords [plainRecord 3 (.baseline 38) none .sources .held] ready
    [0, 1, 3].map (fun i => codeOf 0 s (.confirm 0 (BitVec.ofNat 8 i))) =
      [some .accepted, some .notFound, some .accepted] ∧
    (after (.confirm 0 3) s).records.map (fun r => r.state) = [.qualified] ∧
    codeOf 0 armed (.confirm 0 1) = some .wrongState ∧
    codeOf 0 (device none none) (.confirm 0 0) = some .unset := by decide +kernel
/-- R72, R88: id 0; no record; an armed record, the last of its group. -/
theorem test_withdraw :
    [0, 2].map (fun i => codeOf 0 armed (.withdraw 0 (BitVec.ofNat 8 i))) = [some .outOfRange, some .notFound] ∧
    let t := after (.withdraw 0 1) armed
    t.records = [] ∧ t.scale.groups = [] := by
  decide +kernel
/-- R72, step 5: the roll call has been taken. -/
theorem test_withdraw_late :
    let s : State := { armed with scale := { armed.scale with groups := [⟨86437, 1, some (.fill 12 .ready)⟩] } }
    codeOf 0 s (.withdraw 0 1) = some .tooLate := by decide +kernel
/-- R131: zones 1 to 15, offsets −720 to +840, instants from T + 2. -/
theorem test_shiftZone :
    [(0, 0, 90002), (1, 0, 90001), (1, 0, 90002), (15, 840, 90002), (15, 841, 90002), (1, -720, 90002),
      (1, -721, 90002), (16, 0, 90002)].map
      (fun (z, o, i) => codeOf 0 ready (.shiftZone 0 (BitVec.ofNat 8 z) (BitVec.ofInt 16 o) (BitVec.ofNat 40 i))) =
      [some .outOfRange, some .tooLate, some .accepted, some .accepted, some .outOfRange, some .accepted,
        some .outOfRange, some .outOfRange] := by decide +kernel
theorem test_shiftZone_places :
    (after (.shiftZone 0 3 60 90002) ready).records.map (fun r => (r.id, r.change, r.affected)) =
      [(1, .shift 3 60 90002, some 90002)] := by decide +kernel
/-- R169: values are clamped to the range of the parameter, but for the placement. -/
theorem test_configure :
    [(0, 0), (0, 16), (9, 2), (9, 1), (11, 300), (12, 0)].map
      (fun (k, v) => owedTo 0 ready (.configure 0 (BitVec.ofNat 8 k) (BitVec.ofNat 32 v))) =
      [some (.accepted, [0, 0, 0, 0, 1]), some (.accepted, [0, 0, 0, 0, 15]), some (.outOfRange, []),
        some (.accepted, [9, 0, 0, 0, 1]), some (.accepted, [11, 0, 0, 0, 255]), some (.outOfRange, [])] := by
  decide +kernel
/-- R117. -/
theorem test_setPosition :
    [(11, 1, 15), (12, 1, 15), (11, 2, 15), (11, 1, 16)].map
      (fun (q, m, z) => codeOf 0 ready (.setPosition 0 q m z)) =
      [some .accepted, some .outOfRange, some .outOfRange, some .outOfRange] ∧
    [2, 3].map (fun q => codeOf 2 ready (.setPosition 2 q 1 4)) = [some .accepted, some .notPermitted] := by
  decide +kernel
/-- R48, R49. -/
theorem test_muteSourceMute :
    let s := (withSource (entry .listening 0)).sync
    [(12, 0), (0, 3), (0, 1), (0, 0)].map (fun (q, o) => codeOf 0 s (.muteSourceMute 0 q o)) =
      [some .outOfRange, some .outOfRange, some .notFound, some .accepted] ∧
    ((after (.muteSourceMute 0 0 0) s).source 0).state = .muted := by decide +kernel
theorem test_muteSourceUnmute :
    ((after (.muteSourceUnmute 0 0 0) (withSource (entry .muted 0))).source 0).state = .listening ∧
    ((after (.muteSourceUnmute 0 0 0) (withSource (entry .muted 300))).source 0).state = .stale := by decide +kernel
theorem test_clearScale : codeOf 2 ready (.clearScale 2) = some .notPermitted ∧
    (after (.clearScale 0) ready).scale.clearPending = true := by decide +kernel
/-- R138. -/
theorem test_rulesetStart :
    [(11, 1), (12, 1), (13, 1), (524, 63), (525, 63), (532, 63), (12, 0), (12, 64)].map
      (fun (l, u) => codeOf 0 ready (.rulesetStart 0 (BitVec.ofNat 16 l) (BitVec.ofNat 8 u) 5)) =
      [some .outOfRange, some .accepted, some .outOfRange, some .accepted, some .outOfRange, some .outOfRange,
        some .outOfRange, some .outOfRange] ∧
    codeOf 2 ready (.rulesetStart 2 12 1 5) = some .notPermitted ∧
    owedTo 0 ready (.rulesetStart 0 12 2 5) = some (.accepted, [0, 12, 0, 200]) := by decide +kernel
/-- R139: the timer counts from the frame after the START: 20 units are 2000 at the end of the first, 1999 of the next. -/
theorem test_rulesetStart_timer :
    let t := after (.rulesetStart 0 12 20 5) (atFrame 400)
    (after (.frameEnd [0x200000000000] {}) t).loader.timer = 2000 ∧
    (after (.frameEnd [0x200000000000] {}) (after (.frameEnd [0x200000000000] {}) t)).loader.timer = 1999 := by
  decide +kernel
/-- R141: 1 to 16 bytes, no more than the length claimed. -/
theorem test_rulesetData :
    [0, 1, 11, 12, 16, 17].map (fun n =>
      owedTo 0 (withLoader .loading 12 100 [1]) (.rulesetData 0 (List.replicate n 7))) =
      [some (.outOfRange, []), some (.accepted, [0, 2]), some (.accepted, [0, 12]), some (.overrun, [0, 1]),
        some (.overrun, [0, 1]), some (.outOfRange, [])] ∧
    codeOf 0 ready (.rulesetData 0 [7]) = some .wrongState := by decide +kernel
/-- R142. -/
theorem test_rulesetFinish :
    owedTo 0 (withLoader .loading 12 100 [1]) (.rulesetFinish 0) = some (.short, [0, 1]) ∧
    (after (.rulesetFinish 0) (withLoader .loading 12 100 (List.replicate 12 0))).loader.state = .verifying ∧
    codeOf 0 ready (.rulesetFinish 0) = some .wrongState := by decide +kernel
theorem test_rulesetAbandon :
    (after (.rulesetAbandon 0) (withLoader .loading 12 100 [1])).loader = Loader.initial ∧
    codeOf 0 (withLoader .verifying 12 0 []) (.rulesetAbandon 0) = some .tooLate := by decide +kernel
/-- R119: spans are clamped to 5 to 600. -/
theorem test_rehearse :
    [4, 601].map (fun n => owedTo 0 ready (.rehearse 0 (BitVec.ofNat 16 n))) =
      [some (.accepted, [0, 5]), some (.accepted, [2, 88])] ∧
    codeOf 0 armed (.rehearse 0 10) = some .busy ∧ codeOf 0 (device none none) (.rehearse 0 10) = some .unset := by
  decide +kernel
theorem test_rehearsalCancel :
    codeOf 0 ready (.rehearsalCancel 0) = some .wrongState ∧
    (after (.rehearsalCancel 0) (after (.rehearse 0 10) ready)).lane 0 = (after (.rehearse 0 10) ready).lane 0 ∧
    (after (.rehearsalCancel 0) { ready with rehearsal := { Rehearsal.initial with phase := .pending } }).rehearsal.result =
      some ⟨false, 0, 0⟩ := by decide +kernel

/-- R170: the ends of each subject's indices. -/
theorem test_querySchedule :
    [0, 1, 19, 20, 31, 32, 39, 40].map (fun i => codeOf 0 armed (.querySchedule 0 (BitVec.ofNat 8 i))) =
      [some .accepted, some .notFound, some .notFound, some .outOfRange, some .outOfRange, some .notFound,
        some .notFound, some .outOfRange] := by decide +kernel
theorem test_querySource :
    [0, 1, 15, 16].map (fun i => codeOf 0 (withSource (entry .listening 0)) (.querySource 0 (BitVec.ofNat 8 i))) =
      [some .accepted, some .notFound, some .notFound, some .outOfRange] := by decide +kernel
theorem test_queryPosition :
    [11, 12].map (fun i => codeOf 0 ready (.queryPosition 0 (BitVec.ofNat 8 i))) = [some .accepted, some .outOfRange] := by
  decide +kernel
theorem test_queryHistory :
    [0, 7, 8].map (fun i => codeOf 0 ready (.queryHistory 0 (BitVec.ofNat 8 i))) =
      [some .notFound, some .notFound, some .outOfRange] := by decide +kernel
/-- R187: index, parameter, the staleness limit of 300, no pending value. -/
theorem test_queryConfig :
    owedTo 0 ready (.queryConfig 0 1) = some (.accepted, [1, 1, 0, 0, 1, 44, 0, 0, 0, 0, 0]) ∧
    codeOf 0 ready (.queryConfig 0 12) = some .outOfRange := by decide +kernel
theorem test_queryZone :
    [15, 16].map (fun i => codeOf 0 ready (.queryZone 0 (BitVec.ofNat 8 i))) = [some .accepted, some .outOfRange] := by
  decide +kernel
theorem test_queryRuleset :
    [0, 63, 64].map (fun i => codeOf 0 ready (.queryRuleset 0 (BitVec.ofNat 8 i))) =
      [some .notFound, some .notFound, some .outOfRange] := by decide +kernel
theorem test_queryRehearsal :
    [11, 12].map (fun i => codeOf 0 ready (.queryRehearsal 0 (BitVec.ofNat 8 i))) = [some .notFound, some .outOfRange] := by
  decide +kernel

/-! ### Witnesses: states and operands that meet the hypotheses of the statements -/

/-- The outcome of a command or a step is a next state. -/
def goes (r : Host.Outcome State Fault Refusal) : Bool :=
  match r with
  | .next _ => true
  | _ => false

theorem next_of {r : Host.Outcome State Fault Refusal} (h : goes r = true) : ∃ t, r = .next t := by
  cases r with
  | next t => exact ⟨t, rfl⟩
  | fault _ => cases h
  | refused _ => cases h

theorem not_realign {s : State} (h : s.time.due = .nothing ∨ s.time.due = .second) (p : Nat) :
    s.time.due ≠ .realign p := by
  intro e; rw [e] at h; simp at h

theorem witness_StepTakesFront :
    (ready.withQueue [.clearScale 0, .quietFrames]).pending = .clearScale 0 :: [.quietFrames] ∧ ready.pending = [] :=
  ⟨rfl, rfl⟩
theorem witness_BoundariesAlone :
    worksBoundary ready (.setTime 0 300) = false ∧ ∃ t, exec (.setTime 0 300) ready = .next t :=
  ⟨rfl, next_of (by decide +kernel)⟩
theorem witness_NothingIsTaken :
    (after .mainPowerLoss ready).running = false ∧ isPowerCommand .quietFrames = false ∧
    requestOf (.clearScale 1) = some (1, .clearScale) ∧ ready.hears 1 = false ∧ (atFrame 949).hears 0 = false ∧
    (atFrame 948).hears 0 = true := by decide +kernel

/-- A zone request beside a JOINING card that holds another generation (its offer stands alone on the board; with the cursor
at the pair of held generation and G there is none); a boundary that applies an INSERT (D 37 is held as 38). -/
theorem witness_StoreFollowsOwners :
    let joining : Position := { card .none with state := .joining, held := some 9 }
    (let s := (after (.shiftZone 0 4 0 90003) (withCard joining)).withQueue [.shiftZone 0 3 60 90002];
      s.settled ∧ s.oneOffer ∧ (s.lane 2).board.map BoardEntry.notice = [.offer] ∧
      s.store.copy.records.map RetainedRecord.change = [.shift 4 0 90003] ∧ ∃ t, step s = .next t) ∧
    (let s := after (.shiftZone 0 4 0 90003) (withCard { joining with cursor := some (some 9, 0) });
      s.scale.g = 0 ∧ s.settled ∧ (s.lane 2).board = []) ∧
    (armed.withQueue [.secondBoundary]).settled ∧ (after .secondBoundary armed).scale.d = some 37 ∧
    (after .secondBoundary armed).store.copy.d = some 38 :=
  ⟨⟨by unfold State.settled; decide +kernel, by unfold State.oneOffer; decide +kernel, by decide +kernel,
    by decide +kernel, next_of (by decide +kernel)⟩, by unfold State.settled; decide +kernel,
    by unfold State.settled; decide +kernel, by decide +kernel, by decide +kernel⟩
theorem witness_TagsStayDistinct :
    ((armed.withQueue [.secondBoundary]).tagsDistinct ∧ ∃ t, step (armed.withQueue [.secondBoundary]) = .next t) ∧
    let s := (withSource (entry .listening 0)).withQueue [.announce 0 1 37 0 none]
    s.keysDistinct ∧ ∃ t, step s = .next t :=
  ⟨⟨by unfold State.tagsDistinct; decide +kernel, next_of (by decide +kernel)⟩,
    by unfold State.keysDistinct; decide +kernel, next_of (by decide +kernel)⟩
/-- A board of `n` entries, joined in the order of their subjects: MISSED notices and, sixth, an offer. -/
def filled (n : Nat) : List BoardEntry :=
  (List.range n).map fun i => ⟨i, if i = 5 then .offer else .missed i (.baseline 0) false 0⟩

/-- A step; an ARMED removed by the WITHDRAWN of its record; an entry replaced in place; an APPLIED that keeps the first
generation, and the whole one of a CLEAR_SCALE; a board with one place free, and a full one with a class below. -/
theorem witness_BoardsStayWithinRoom :
    ((armed.withQueue [.withdraw 0 1]).boardsFit ∧ ∃ t, step (armed.withQueue [.withdraw 0 1]) = .next t) ∧
    (armed.withQueue [.withdraw 0 1]).boardsOrdered ∧
    queueOn 3 (.withdrawn 1 (.baseline 0) .met) [⟨1, .armed (leapRecord .armed).armedReport⟩] =
      [⟨3, .withdrawn 1 (.baseline 0) .met⟩] ∧
    queueOn 3 (.timeSlip 7) [⟨1, .timeSlip 5⟩, ⟨2, .leadChanged none⟩] = [⟨1, .timeSlip 7⟩, ⟨2, .leadChanged none⟩] ∧
    queueOn 3 (.applied 4 4 2 0 0 false) [⟨1, .applied 2 3 1 0 0 false⟩] = [⟨1, .applied 2 4 2 0 0 false⟩] ∧
    queueOn 3 (.applied 4 4 0 0 0 true) [⟨1, .applied 2 3 1 0 0 false⟩] = [⟨1, .applied 4 4 0 0 0 true⟩] ∧
    queueOn 90 (.timeSlip 7) (filled 47) = filled 47 ++ [⟨90, .timeSlip 7⟩] ∧
    queueOn 90 (.withdrawn 9 (.baseline 0) .met) (⟨0, .timeSlip 7⟩ :: (filled 48).drop 1) =
      (filled 48).drop 1 ++ [⟨90, .withdrawn 9 (.baseline 0) .met⟩] ∧
    queueOn 90 (.withdrawn 9 (.baseline 0) .met) ((filled 54).drop 6) =
      (filled 54).drop 7 ++ [⟨90, .withdrawn 9 (.baseline 0) .met⟩] ∧
    queueOn 90 (.withdrawn 9 (.baseline 0) .met) ((filled 53).drop 5) =
      ⟨5, .offer⟩ :: (filled 53).drop 7 ++ [⟨90, .withdrawn 9 (.baseline 0) .met⟩] :=
  ⟨⟨by unfold State.boardsFit; decide +kernel, next_of (by decide +kernel)⟩,
    by unfold State.boardsOrdered BoardEntry.goesFirst; decide +kernel, by decide +kernel⟩
/-- The generations of a history, entry by entry. -/
theorem runs_of {g : BitVec 16} {l : List HistoryEntry}
    (h : ∀ i : Fin l.length, ∀ e ∈ l.reverse[i.val]?, e.gen = g - BitVec.ofNat 16 i.val) : generationsRun g l := by
  intro i e hi
  have hl : i < l.length := by simpa using (List.getElem?_eq_some_iff.mp hi).1
  exact h ⟨i, hl⟩ e hi

/-- A value beyond its range; a history of one entry; an ARMED BASELINE to the greatest D, due at the next boundary. -/
theorem witness_ValuesStayInRange :
    (let s := ready.withQueue [.configure 0 0 99];
      (s.timeInRange ∧ s.settingsInRange ∧ s.historyFits) ∧ ∃ t, step s = .next t) ∧
    (let s := (after .secondBoundary armed).withQueue [.secondBoundary];
      s.generationsRun ∧ s.scale.history.length = 1 ∧ ∃ t, step s = .next t) ∧
    (let s := armed.withQueue [.secondBoundary];
      (s.fieldsFit ∧ s.settingsInRange ∧ s.tagsDistinct ∧ s.armedInGroups ∧ s.recordsFit) ∧ ∃ t, step s = .next t) ∧
    let s := (applying (.baseline 255) 37).withQueue [.secondBoundary]
    (s.scaleInRange ∧ s.baselinesNext ∧ s.armedInGroups ∧ s.recordsFit) ∧ ∃ t, step s = .next t := by
  refine ⟨⟨by unfold State.timeInRange State.settingsInRange State.historyFits paramInRange; decide +kernel,
    next_of (by decide +kernel)⟩,
    ⟨⟨runs_of (by decide +kernel), runs_of (by decide +kernel)⟩, by decide +kernel, next_of (by decide +kernel)⟩,
    ⟨⟨armed_fields, by unfold State.settingsInRange paramInRange; decide +kernel,
      by unfold State.tagsDistinct; decide +kernel, by unfold State.armedInGroups; decide +kernel, armed_fits⟩,
      next_of (by decide +kernel)⟩,
    ⟨?_, ?_, by unfold State.armedInGroups; decide +kernel,
      by unfold State.recordsFit changesFit idsFit; decide +kernel⟩, next_of (by decide +kernel)⟩
  · refine ⟨by decide +kernel, by decide +kernel, ?_, ?_, by unfold View.fits; decide +kernel⟩
    · have h : ((applying (.baseline 255) 37).withQueue [.secondBoundary]).records.map Record.change = [.baseline 255] := by
        decide +kernel
      intro r hr
      have hm := List.mem_map_of_mem (f := Record.change) hr
      rw [h, List.mem_singleton] at hm
      rw [hm]; exact Nat.le_refl _
    · have h : ((applying (.baseline 255) 37).withQueue [.secondBoundary]).store.copy.records.map RetainedRecord.change =
          [.baseline 255] := by decide +kernel
      intro r hr
      have hm := List.mem_map_of_mem (f := RetainedRecord.change) hr
      rw [h, List.mem_singleton] at hm
      rw [hm]; exact Nat.le_refl _
  · refine ⟨by decide +kernel, ?_, by decide +kernel⟩
    intro r hr _ _
    have h : ((applying (.baseline 255) 37).withQueue [.secondBoundary]).records.map Record.affected = [some 86437] := by
      decide +kernel
    have hm := List.mem_map_of_mem (f := Record.affected) hr
    rw [h, List.mem_singleton] at hm
    exact ⟨⟨86436, rfl, by decide, hm, by decide +kernel⟩, by decide +kernel⟩
theorem witness_EmptyPositionsStayClear :
    (ready.withQueue [.frameEnd [] {}]).emptyIsClear ∧ ∃ t, step (ready.withQueue [.frameEnd [] {}]) = .next t :=
  ⟨by unfold State.emptyIsClear; decide +kernel, next_of (by decide +kernel)⟩
theorem witness_ArmedRecordsStayInGroups :
    (armed.withQueue [.secondBoundary]).armedInGroups ∧ ∃ t, step (armed.withQueue [.secondBoundary]) = .next t :=
  ⟨by unfold State.armedInGroups; decide +kernel, next_of (by decide +kernel)⟩

/-- The state with a source that has vouched for the leap of day `e` on offset 37: an INSERT of day 3, else a DELETE. -/
def voucherOf (e : Nat) : Source :=
  { entry .vouching 0 with
    key := some ⟨if e = 3 then 0 else 2, .satellite⟩
    vouched := some ⟨37, some ⟨if e = 3 then .insert else .delete, e, false⟩⟩ }

def withSourceAt (i : Fin 16) (e : Source) (s : State) : State := { s with sources := s.sources.put i e }

/-- The device with two records. -/
def two : State :=
  withRecords [plainRecord 7 (.shift 3 60 90005) (some 90005) .operator .qualified,
    plainRecord 4 (.baseline 38) none .sources .held] ready

/-- The only leap records are these, reckoned on D 37. -/
theorem reckoned_of {s : State} (h : s.scale.d = some 37) (l : List Change) (hl : s.records.all (fun r =>
      !r.change.isLeap || r.state == .armed || r.state == .settling ||
        l.any fun c => r.change == c && r.affected == match c with
          | .leap .insert e => some (86400 * e + 37)
          | .leap .delete e => some (86400 * e + 37 - 1)
          | _ => none) = true) : s.leapsReckoned := by
  intro r hr d k e hd hc ha hs
  rw [h] at hd
  cases hd
  have hb := List.all_eq_true.mp hl r hr
  simp only [hc, Change.isLeap, Bool.not_true, Bool.false_or, Bool.or_eq_true, beq_iff_eq, ha, hs, false_or,
    List.any_eq_true, Bool.and_eq_true] at hb
  obtain ⟨c, -, h1, h2⟩ := hb
  rw [h2, ← h1]
  cases k <;> rfl

/-- The device at T 86436 and D 37, a BASELINE armed for the next boundary, an INSERT and a DELETE of day 3 and day 4 waiting. -/
def reckoning (x : Nat) : State :=
  let s := applying (.baseline x) 37
  withRecords ([{ leapRecord .armed with change := .baseline x }] ++
    [plainRecord 2 (.leap .insert 3) (some 259237) .sources .heard,
      plainRecord 3 (.leap .delete 4) (some 345636) .sources .contested]) s

/-- R18, R19: the two leaps follow D to 40. -/
theorem witness_RecordsStayInOrder :
    ((two.withQueue [.shiftZone 0 4 60 90003]).recordsOrdered ∧
      ∃ t, step (two.withQueue [.shiftZone 0 4 60 90003]) = .next t) ∧
    let s := (reckoning 40).withQueue [.secondBoundary]
    (s.leapsReckoned ∧ s.recordsFit) ∧ (∃ t, step s = .next t) ∧
    ((after .secondBoundary (withSourceAt 0 (voucherOf 3) (withSourceAt 1 (voucherOf 4) (reckoning 40)))).records.map
      fun r => (r.id, r.affected)) = [(2, some 259240), (3, some 345639)] :=
  ⟨⟨by unfold State.recordsOrdered; decide +kernel, next_of (by decide +kernel)⟩,
    ⟨reckoned_of (by decide +kernel) [.leap .insert 3, .leap .delete 4] (by decide +kernel),
      by unfold State.recordsFit changesFit idsFit; decide +kernel⟩, next_of (by decide +kernel), by decide +kernel⟩
theorem witness_RecordsStayWithinQuota :
    ((two.withQueue [.shiftZone 0 4 60 90003]).recordsFit ∧
      ∃ t, step (two.withQueue [.shiftZone 0 4 60 90003]) = .next t) ∧
    let s := { two with sched := { two.sched with listed := [⟨.baseline 40, .opposed, some 5⟩] } }.withQueue [.withdraw 0 4]
    s.listFits ∧ (∃ t, step s = .next t) ∧ codeOf 0 s (.withdraw 0 4) = some .accepted :=
  ⟨⟨by unfold State.recordsFit changesFit idsFit; decide +kernel, next_of (by decide +kernel)⟩,
    by unfold State.listFits; decide +kernel, next_of (by decide +kernel), by decide +kernel⟩

theorem witness_PowerAndClock : ready.running = true ∧ (after .mainPowerLoss ready).running = false := by
  decide +kernel
theorem witness_StartUpCold : (after (.vbakLow 1) ready).store.good = false ∧
    (after (.vbakLow 0) ready).store.good = false := by decide +kernel
/-- A retained BASELINE to the retained D among the records: it is gone. -/
theorem witness_StartUpRestores :
    let s := withRecords [leapRecord .armed, plainRecord 5 (.baseline 37) none .operator .qualified] armed
    s.store.good = true ∧ s.settingsInRange ∧ s.recordsFit ∧
    (∀ r ∈ s.store.copy.records, r.state = .qualified ∨ r.state = .held ∨ r.state = .armed) ∧
    s.store.copy.d = some 37 ∧ s.store.copy.records.map (fun r => r.id) = [1, 5] ∧
    (after .startUp s).records.map (fun r => r.id) = [1] :=
  ⟨by decide +kernel, by unfold State.settingsInRange paramInRange; decide +kernel,
    by unfold State.recordsFit changesFit idsFit; decide +kernel, by decide +kernel, by decide +kernel,
    by decide +kernel, by decide +kernel⟩

/-- The last frames; a counted mark; the slot of controller B undriven (its mark bit reads 1); an armed rehearsal; a load
in the frame of its claim and after it, and one that runs out. -/
theorem witness_FrameEndCounts :
    (segmentOf [0] 1).mark = true ∧
    [998, 999].map (fun n => ((atFrame n).running, (atFrame n).time.due, (after (.frameEnd [0] {}) (atFrame n)).time.due)) =
      [(true, .nothing, .nothing), (true, .nothing, .second)] ∧
    (let s := withTime (fun b => { b with frame := 500 }) (tracked
        { mode := .aligned, candidate := some 501, run := 4, misses := 0, interval := 999, lastBit := false });
      s.running = true ∧ s.time.due = .nothing ∧ s.counted [0x020000000000] .a = true ∧
      (after (.frameEnd [0x020000000000] {}) s).time.due = .realign 501) ∧
    (let s := rehearsing .armed 90020;
      s.running = true ∧ s.time.due = .nothing ∧ s.rehearsal.tag = some 1 ∧
      (after (.frameEnd [] {}) s).rehearsal.phase = .armed ∧ (after (.frameEnd [] {}) s).time.frame = 1) ∧
    ([(true, 100), (false, 100), (false, 1)].map fun (f, n) =>
      let s := withLoader .loading 12 n [7]
      let s : State := { s with loader := { s.loader with fresh := f } }
      (s.running && (s.arrivals []).isEmpty && (after (.frameEnd [] {}) s).occupied 0,
        (after (.frameEnd [] {}) s).loader.timer)) = [(true, 100), (true, 99), (true, 0)] := by decide +kernel
/-- A second boundary due, and a realignment. -/
theorem witness_FrameEndCounts_due :
    [Due.second, .realign 500].map (fun due =>
      let s := withTime (fun b => { b with frame := 999, due := due }) ready
      (s.running, s.time.due, (after (.frameEnd [] {}) s).time.frame)) =
      [(true, .second, 1), (true, .realign 500, 1)] := by decide +kernel
/-- A mark counted by the lead holder's tracker: R6, R7, R10. -/
theorem witness_FrameEndTracksMarks :
    let k (mode : TrackerMode) (run : Nat) : Tracker :=
      { mode := mode, candidate := some 501, run := run, misses := 0, interval := 999, lastBit := false }
    let at500 (k : Tracker) : State := withTime (fun b => { b with frame := 500 }) (tracked k)
    [(TrackerMode.aligned, 4), (.seeking, 3), (.seeking, 2)].map (fun (m, r) =>
      ((at500 (k m r)).running, (at500 (k m r)).time.due, (at500 (k m r)).time.holder,
        (at500 (k m r)).counted [0x020000000000] .a, (after (.frameEnd [0x020000000000] {}) (at500 (k m r))).time.due)) =
      [(true, .nothing, some .a, true, .realign 501), (true, .nothing, some .a, true, .realign 501),
        (true, .nothing, some .a, true, .nothing)] := by decide +kernel
/-- A controller without the lead whose counted mark stands in the frame in which it takes the lead: judged against the holder
the frame ends with, the mark realigns, against the one it began with it does not. In frame 999 it stands at 0. -/
theorem witness_FrameEndTracksMarks_holder :
    let k (n : Nat) : Tracker :=
      { mode := .aligned, candidate := some ((n + 1) % 1000), run := 4, misses := 0, interval := 999, lastBit := false }
    let s (n : Nat) : State := withTime (fun b => { b with frame := n, holder := none }) (tracked (k n))
    ([(500, true), (500, false), (999, false)].map fun (n, first) =>
      let t := after (.frameEnd [0x020000000000] { marksFirst := first }) (s n)
      ((s n).time.holder, t.time.holder, (s n).counted [0x020000000000] .a, t.time.due)) =
      [(none, some .a, true, .nothing), (none, some .a, true, .realign 501), (none, some .a, true, .second)] := by
  decide +kernel
/-- The hypotheses; and a device without a holder, where controller A takes the lead and its LEAD_CHANGED is sent. -/
theorem witness_FrameEndArbitratesLead :
    (ready.running = true ∧ ready.time.due = .nothing) ∧
    let s := withTime (fun b => { b with holder := none }) ready
    let t := after (.frameEnd [] {}) s
    t.time.holder ≠ s.time.holder ∧ s.still ∧ s.records = [] ∧ s.arrivals [] = [] ∧ t.occupied (ctlPos .a) = true ∧
    (s.lane (ctlPos .a)).board.length ≤ 10 ∧
    ((t.lane 0).board.map BoardEntry.notice, (t.lane 0).sending.map Transfer.bytes) =
      ([.leadChanged (some .a)], none) := by unfold State.still; decide +kernel
/-- The hypotheses, and a position that meets the premise of each clause: one that stays, one that comes, one whose
held generation changes in each state, one that begins to follow, one that turns PRESENT. -/
theorem witness_FrameEndMovesPositions :
    ready.running = true ∧ ready.time.due = .nothing ∧ ready.time.frame ≠ 979 ∧
    let read (x : Position) : Intent × Option Byte :=
      ((x.sIntent.feed (readIntent (segmentOf [0x200000000000] 0).intent)).steady.getD x.intent,
        (x.sHeld.feed (segmentOf [0x200000000000] 0).held).steady.or x.held)
    let soon : Sampler Intent := ⟨some .following, 2⟩
    read (card .none) = (.following, some 0) ∧
    read { Position.initial .step 0 with sIntent := soon } = (.following, none) ∧
    read { card .none with state := .joining, held := some 9 } = (.following, some 0) ∧
    read { card .none with state := .joining, intent := .present, sIntent := soon } = (.following, some 0) ∧
    ((⟨some .present, 2⟩ : Sampler Intent).feed (readIntent 1)).steady = some .present ∧
    (Position.initial .step 0).intent = .idle := by decide +kernel
/-- R105, R113, R116: a LAGGING card whose held generation becomes G: its offer leaves the board before the next frame's
arbiter, and SLOT_STATE goes to the controllers. -/
theorem witness_FrameEndMovesPositions_told :
    let s := (withCard { card .none with state := .lagging, held := some 9, sHeld := ⟨some 0, 2⟩ }).finish
    let segs : List (BitVec 48) := [BitVec.allOnes 48, BitVec.allOnes 48, 0x200000000000]
    let t := after (.frameEnd segs {}) s
    s.running = true ∧ s.time.due = .nothing ∧ s.time.frame ≠ 979 ∧ s.still ∧ s.records = [] ∧ s.arrivals segs = [] ∧
    t.occupied (ctlPos .a) = true ∧ (s.lane (ctlPos .a)).board.length ≤ 10 ∧ (t.pos 2).state = .inStep ∧
    ((s.lane 2).board.map BoardEntry.notice, (t.lane 2).board.map BoardEntry.notice, (t.lane 2).sending) =
      ([.offer], [], none) ∧
    (t.lane 0).board.map BoardEntry.notice = [.slotState 2 (t.pos 2).report] := by unfold State.still; decide +kernel
/-- A card that holds an older generation, its timers running and its offer made. -/
def behind (state : PosState) (soon : Sampler Intent) : Position :=
  { card .none with
    state := state, sIntent := soon, lag := 7, takeCheck := some 1, cursor := some (some 9, 0), held := some 9
    sHeld := ⟨some 0, 2⟩ }

/-- What a frame that shows `intent` and generation 0 makes of the line card `x`: its state, timers and cursor. -/
def framed (intent : BitVec 48) (x : Position) : (PosState × Nat) × Option Nat × Bool :=
  let t := after (.frameEnd [BitVec.allOnes 48, BitVec.allOnes 48, intent <<< 44] {}) (withCard x).finish
  (((t.pos 2).state, (t.pos 2).lag), (t.pos 2).takeCheck, (t.pos 2).cursor.isSome && (t.lane 2).sending.isNone)

/-- R105 to R107, R109, R113, R114: the timers and the cursor of a LAGGING card and of one JOINING that come to show G, of a
LAGGING and a JOINING card that turn PRESENT, and of an IN_STEP card that comes to show another generation. -/
theorem witness_FrameEndMovesPositions_timers :
    ((withCard (behind .lagging ⟨some .following, 3⟩)).finish.running = true ∧
      (withCard (behind .lagging ⟨some .following, 3⟩)).finish.time.due = .nothing) ∧
    framed 2 (behind .lagging ⟨some .following, 3⟩) = ((.inStep, 0), some 1, true) ∧
    framed 2 (behind .joining ⟨some .following, 3⟩) = ((.inStep, 0), some 1, true) ∧
    framed 1 (behind .lagging ⟨some .present, 2⟩) = ((.joining, 0), some 1, false) ∧
    framed 1 (behind .joining ⟨some .present, 2⟩) = ((.joining, 0), some 1, true) ∧
    framed 2 { behind .inStep ⟨some .following, 3⟩ with held := some 0, sHeld := ⟨some 0, 3⟩ } =
      ((.inStep, 7), some 1, true) ∧
    (let s : State := { withCard { behind .inStep ⟨some .following, 3⟩ with takeCheck := none } with
        scale := { ready.scale with g := 5 } };
      let t := after (.frameEnd [BitVec.allOnes 48, BitVec.allOnes 48, 0x200000000000] {})
        (withTime (fun b => { b with frame := 985 }) s);
      ((t.pos 2).state, (t.pos 2).lag, (t.pos 2).cursor) = (.lagging, 0, none) ∧ (t.lane 2).sending = none) := by
  decide +kernel
theorem witness_DepartureEmptiesPosition :
    let s := withCard { card .none with sIntent := ⟨some .idle, 2⟩ }
    let t := after (.frameEnd [] {}) s
    s.running = true ∧ s.time.due = .nothing ∧ s.occupied 2 = true ∧
    (((s.pos 2).sIntent.feed (readIntent (segmentOf [] 2).intent)).steady.getD (s.pos 2).intent) = .idle ∧
    s.still ∧ s.records = [] ∧ s.arrivals [] = [] ∧ t.occupied (ctlPos .a) = true ∧
    (s.lane (ctlPos .a)).board.length ≤ 10 ∧
    (t.lane 0).board.map BoardEntry.notice = [.slotState 2 (t.pos 2).report] := by
  unfold State.still; decide +kernel
/-- Entries of the departing position in each state in use, and a MUTED one; the controller is told of those that were not
STALE. -/
theorem witness_DepartureEmptiesPosition_sources :
    let e (o : SourceOrigin) (st : SourceState) : Source := { entry st 3 with key := some ⟨2, o⟩ }
    let l := [e .network .muted, e .satellite .listening, e .operator .stale]
    let s : State := { withCard { card .none with sIntent := ⟨some .idle, 2⟩ } with
      sources := .build 16 fun i => l.getD i.val .initial }
    let t := after (.frameEnd [] {}) s
    s.running = true ∧ s.time.due = .nothing ∧ s.occupied 2 = true ∧ s.arrivals [] = [] ∧ s.records = [] ∧
    t.occupied (ctlPos .a) = true ∧ (s.lane (ctlPos .a)).board = [] ∧
    ([0, 1, 2].map fun i => ((s.source i).state, decide (t.source i = { s.source i with state := .stale }))) =
      [(.muted, true), (.listening, true), (.stale, true)] ∧
    ((t.lane 0).board.map fun e => (e.notice.code, e.notice.subject)) = [(0x58, 2), (0x59, 0), (0x59, 1)] := by
  decide +kernel

/-- R45, R50: card 2 departs in the frame in which the last byte of its ANNOUNCE is taken, beside the entry `e`; the agreement
tally stands at 7, which no source backs. -/
def parting (origin : Byte) (e : Source) : State :=
  let s := withCard { card .none with sIntent := ⟨some .idle, 2⟩ }
  { s with
    sources := .build 16 fun i => if i = 0 then e else { entry .muted 0 with key := some ⟨⟨4 + i.val % 8, by omega⟩,
      if i.val < 8 then .network else .satellite⟩ }
    sched := { s.sched with agreement := 7 }
    lanes := s.lanes.put 2 { Lane.initial with inbound := .receiving, buffer := [0x10, 3, origin, 37] } }

/-- The ANNOUNCE taken first allocates a FREE entry, evicts a STALE one, or brings the position's own STALE entry back: a tally
is taken, with the entry STALE. None where it is refused (a line card's OPERATOR origin), nor where the departure comes first.
With an entry of the position in use and no parcel, a tally is taken. -/
theorem witness_DepartureEmptiesPosition_tally :
    let segs : List (BitVec 48) := [BitVec.allOnes 48, BitVec.allOnes 48, 0xF00000180000]
    let s (o : Byte) (e : Source) : State := parting o e
    let own (st : SourceState) : Source := { entry st 3 with key := some ⟨2, .network⟩ }
    (∀ e ∈ [Source.initial, entry .stale 3], (s 0 e).running = true ∧ (s 0 e).time.due = .nothing ∧ (s 0 e).occupied 2 = true ∧
      requestsOf ((s 0 e).arrivals segs) = [(2, .announce 0 37 0 none)] ∧
      ((((s 0 e).pos 2).sIntent.feed (readIntent (segmentOf segs 2).intent)).steady.getD ((s 0 e).pos 2).intent) = .idle) ∧
    ([(0, Source.initial, true), (0, entry .stale 3, true), (0, own .stale, true), (2, .initial, true), (0, .initial, false),
        (0, own .stale, false)] : List (Byte × Source × Bool)).map (fun (o, e, first) =>
      let t := after (.frameEnd segs { requestsFirst := first }) (s o e)
      (((t.source 0).key.map SourceKey.pos, (t.source 0).state), (t.source 0).run, t.sched.agreement, t.agrees)) =
      [((some 2, .stale), 1, 0, 0), ((some 2, .stale), 1, 0, 0), ((some 2, .stale), 2, 0, 0), ((none, .free), 0, 7, 0),
        ((none, .free), 0, 7, 0), ((some 2, .stale), 1, 7, 0)] ∧
    (let silent := segs.set 2 0xF00000000000;
      let t := after (.frameEnd silent {}) (s 0 (own .vouching));
      (s 0 (own .vouching)).arrivals silent = [] ∧ ((t.source 0).state, t.sched.agreement) = (.stale, 0)) := by
  decide +kernel

/-- T unknown, and T at the two greatest values. -/
theorem witness_BoundarySetsTime :
    (∀ t ∈ [none, some (2 ^ 40 - 2), some (2 ^ 40 - 1)], (device t (some 37)).running = true ∧
      (device t (some 37)).time.due = .nothing) ∧ ∀ p, ready.time.due ≠ .realign p :=
  ⟨by decide +kernel, not_realign (.inl rfl)⟩
theorem witness_BoundaryAppliesSettings : ready.running = true ∧
    ((after (.configure 0 0 1) ready).settings.pending.get 0) = some 1 := by decide +kernel
/-- A provisional D with the marker set and without; with two sources that agree, the boundary's tally sets the marker. -/
theorem witness_BoundaryAppliesSettings_flag :
    let s (marker : Bool) (l : List Source) : State :=
      { ready with
        scale := { ready.scale with provisional := true, confirmPending := marker }
        sources := .build 16 fun i => l.getD i.val .initial }
    let agree (p : Pos) : Source := { entry .vouching 0 with key := some ⟨p, .network⟩, vouched := some ⟨37, none⟩ }
    ([(true, []), (false, []), (false, [agree 0, agree 2]), (true, [agree 0, agree 2])].map fun (b, l) =>
      let t := after .secondBoundary (s b l)
      ((s b l).running, t.scale.provisional, t.scale.confirmPending)) =
      [(true, false, false), (true, true, false), (true, true, true), (true, false, false)] ∧
    ready.scale.groups = [] ∧ ready.scale.clearPending = false := by decide +kernel
/-- The device at T `n` and D 37, the line card in SMEAR, with these records and groups. -/
def planned (n : Nat) (l : List Record) (groups : List Group) : State :=
  let s := device (some n) (some 37)
  let s := { s with roster := s.roster.put 2 { card .none with mode := .smear } }
  withRecords l { s with scale := { s.scale with groups := groups } }

/-- An open window half way, for an INSERT and for a DELETE; a BASELINE and a DELETE at the boundary to come; a rehearsal's
group. -/
theorem witness_BoundaryLabelsSecond :
    (armed.running = true ∧ (after .secondBoundary armed).scale.inserting = some 1) ∧
    ([LeapKind.insert, .delete].map fun k =>
      let r := { leapRecord .settling with change := .leap k 1, window := some ⟨86400, 86500, 100, 37, 38⟩ }
      let t := after .secondBoundary (planned 86448 [r] [])
      ((t.pos 2).mode, t.time.t, (t.records.filter fun r => r.leapBusy &&
        r.window.any fun w => decide (w.start ≤ 86450 ∧ 86450 < w.stop)).length, t.labels.pairs.get 2, t.labels.pairs.get 0)) =
      [(.smear, some 86449, 1, ⟨37, 500000000⟩, ⟨37, 0⟩), (.smear, some 86449, 1, ⟨36, 500000000⟩, ⟨37, 0⟩)] ∧
    ([Change.baseline 200, .leap .delete 1].map fun c =>
      let t := after .secondBoundary (planned 86435 [{ leapRecord .armed with change := c }] [⟨86437, 1, none⟩])
      (t.time.t, t.scale.inserting, (t.records.filter fun r => r.state == .armed && r.affected == some 86437).length,
        t.labels.pairs.get 0)) =
      [(some 86436, none, 1, ⟨200, 0⟩), (some 86436, none, 1, ⟨36, 0⟩)] ∧
    (let t := after .secondBoundary (rehearsing .armed 90020);
      t.armedGroups.map (fun g => (g.tag, g.rehearsal)) = [(1, true)] ∧ t.labels.countdown = 19) :=
  ⟨by decide +kernel, by decide +kernel, by decide +kernel, by decide +kernel⟩
/-- A source, an APPLIED that has not been sent yet on the controller's board, and an empty board at the card. -/
theorem witness_BoundaryClearsScale :
    let s := after (.clearScale 0) (withSource (entry .muted 0))
    let s := s.setLane 0 { s.lane 0 with board := [⟨1, .applied 2 3 1 0 0 false⟩] }
    s.running = true ∧ (∀ p, s.time.due ≠ .realign p) ∧ s.scale.clearPending = true ∧
    (s.source 0).state ≠ .free ∧ s.occupied (ctlPos .a) = true ∧ s.occupied 2 = true ∧ (s.lane 2).board = [] ∧
    ((after .secondBoundary s).lane 0).board.map (fun e => (e.notice.code, e.notice.subject)) = [(0x52, 0), (0x59, 0)] ∧
    ((after .secondBoundary s).lane 2).board.map BoardEntry.notice = [.applied 1 1 0 0 0 true] :=
  ⟨by decide +kernel, not_realign (.inl (by decide +kernel)), by decide +kernel⟩
theorem no_groups {s : State} (h : s.scale.groups = []) :
    ∀ g ∈ s.scale.groups, ∀ n, s.time.newT = some n → g.affected ≠ n := by
  intro g hg
  rw [h] at hg
  cases hg

/-- The source of controller A reads the old D, and that of B another one. -/
theorem witness_BoundaryEndsInsertedSecond :
    let e (o : SourceOrigin) (d : Nat) : Source :=
      { entry .muted 0 with key := some ⟨0, o⟩, vouched := some ⟨d, none⟩ }
    let s : State := withRecords [plainRecord 3 (.leap .insert 4) (some 345637) .operator .contested]
      { after .secondBoundary armed with
        sources := (ready.sources.put 0 (e .network 37)).put 1 (e .satellite 36) }
    s.running = true ∧ (∀ p, s.time.due ≠ .realign p) ∧ s.scale.clearPending = false ∧ s.scale.inserting = some 1 ∧
    s.scale.d = some 37 ∧ (∀ g ∈ s.scale.groups, ∀ n, s.time.newT = some n → g.affected ≠ n) ∧
    let t := after .secondBoundary s
    ([0, 1].map fun i => ((t.source i).vouched, (s.source i).state, t.sched.marks.get i)) =
      [(some ⟨37, none⟩, .muted, true), (some ⟨36, none⟩, .muted, false)] ∧
    s.recordsFit ∧ t.records.map Record.affected = [some 345638] := by
  exact ⟨by decide +kernel, not_realign (.inl (by decide +kernel)), by decide +kernel, by decide +kernel,
    by decide +kernel, no_groups (by decide +kernel), by decide +kernel,
    by unfold State.recordsFit changesFit idsFit; decide +kernel, by decide +kernel⟩

/-- The device of `armed`, with a change of zone 3 in the same group, its boundary due. -/
def several : State :=
  let z := { plainRecord 2 (.shift 3 60 86437) (some 86437) .operator .armed with tag := some 1 }
  withTime (fun b => { b with frame := 999, due := .second }) (withRecords [leapRecord .armed, z] armed)

/-- One change of each kind, and the leaps at the ends of the range of D; and a group of two, its second entered from
frame 999. -/
theorem witness_BoundaryAppliesChange :
    (∀ x ∈ [(Change.leap .insert 1, 254), (.leap .insert 1, 255), (.leap .delete 1, 1), (.leap .delete 1, 0),
        (.baseline 255, 37), (.shift 15 840 86437, 37)],
      let s := applying x.1 x.2
      s.running = true ∧ s.time.due = .nothing ∧ s.time.t = some 86436 ∧ s.time.pendingTime = none ∧
      s.scale.clearPending = false ∧ s.scale.inserting = none ∧ s.scale.d = some x.2 ∧
      (s.scale.groups.find? fun x => x.affected == 86436 + 1) = some ⟨86437, 1, none⟩ ∧
      s.members 1 = [{ leapRecord .armed with change := x.1 }]) ∧
    (86436 < 2 ^ 40 - 1 ∧ ∀ p, (applying (.baseline 38) 37).time.due ≠ .realign p) ∧
    (several.running = true ∧ (∀ p, several.time.due ≠ .realign p) ∧ several.recordsFit ∧ several.recordsOrdered ∧
      several.time.t = some 86436 ∧ several.time.pendingTime = none ∧ several.scale.clearPending = false ∧
      several.scale.inserting = none ∧
      (several.scale.groups.filter fun x => x.affected == 86436 + 1) = [⟨86437, 1, none⟩] ∧
      several.members 1 = several.records ∧ several.records.length = 2 ∧
      ((several.members 1).filter Record.isScale).length ≤ 1 ∧ leapInRange .insert 37 = true ∧ several.scale.d = some 37 ∧
      several.still ∧ several.rehearsal.phase = .none ∧ several.time.due = .second ∧ several.occupied 2 = true ∧
      (several.lane 2).board = [] ∧ (after .secondBoundary several).scale.g = 2) :=
  ⟨by decide +kernel, ⟨by decide, not_realign (.inl rfl)⟩, by decide +kernel, not_realign (.inr rfl),
    by unfold State.recordsFit changesFit idsFit; decide +kernel, by unfold State.recordsOrdered; decide +kernel,
    by unfold State.still; decide +kernel⟩
/-- R60: a source that reads the old D is marked where a BASELINE or a DELETE changes D, and not where D was unknown. -/
theorem witness_BoundaryAppliesChange_marks :
    let e : Source := { entry .muted 0 with vouched := some ⟨37, none⟩ }
    let unknown : State := { applying (.baseline 40) 37 with scale := { (applying (.baseline 40) 37).scale with d := none } }
    ([applying (.baseline 40) 37, applying (.leap .delete 1) 37, applying (.baseline 37) 37, unknown].map fun s =>
      let s := withSourceAt 0 e s
      let t := after .secondBoundary s
      (decide (s.running = true ∧ s.scale.clearPending = false ∧ (s.members 1).length = 1), t.scale.d, t.sched.marks.get 0)) =
      [(true, some 40, true), (true, some 36, true), (true, some 37, false), (true, some 40, false)] := by decide +kernel
/-- An INSERT due at D 255, alone or beside a change of zone 3, with the source `e`. -/
def outOfRange (beside : Bool) (e : Source) : State :=
  let z := { plainRecord 2 (.shift 3 60 86437) (some 86437) .operator .armed with tag := some 1 }
  withTime (fun b => { b with frame := 999, due := .second })
    (withSourceAt 0 e (withRecords (leapRecord .armed :: if beside then [z] else []) (applying (.leap .insert 1) 255)))

/-- What its boundary lists, queues to the line card and leaves of the generation and the schedule. -/
def outcome (s : State) : (BitVec 16 × List Change) × List Listed × List (Nat × Nat) :=
  let t := after .secondBoundary s
  ((t.scale.g, t.records.map Record.change), t.sched.listed,
    (t.lane 2).board.map fun e => (e.notice.code, e.notice.subject))

/-- R22, R65, R71: the INSERT is listed while its source vouches for it, told, and counted in no generation. -/
theorem witness_BoundaryAppliesChange_range :
    let heard : Source := { entry .vouching 0 with vouched := some ⟨37, some ⟨.insert, 1, false⟩⟩ }
    (((outOfRange true heard).members 1).map (outOfRange true heard).applies = [false, true] ∧
      ((outOfRange false heard).members 1).map (outOfRange false heard).applies = [false] ∧
      0 < (after .secondBoundary (outOfRange false heard)).vouches (.leap .insert 1)) ∧
    outcome (outOfRange false heard) =
      ((0, [.baseline 37]), [⟨.leap .insert 1, .range, some 86437⟩], [(0x51, 1)]) ∧
    outcome (outOfRange true heard) =
      ((1, [.baseline 37]), [⟨.leap .insert 1, .range, some 86437⟩], [(0x51, 1), (0x52, 0)]) ∧
    outcome (outOfRange true .initial) = ((1, []), [], [(0x51, 1), (0x52, 0)]) ∧
    (outOfRange true .initial).still ∧ (outOfRange true heard).recordsFit ∧ (outOfRange true heard).recordsOrdered :=
  ⟨by decide +kernel, by decide +kernel, by decide +kernel, by decide +kernel, by unfold State.still; decide +kernel,
    by unfold State.recordsFit changesFit idsFit; decide +kernel, by unfold State.recordsOrdered; decide +kernel⟩
/-- R94: a leap of affected second 86437 settles until a + 1 in ENDING placement, and until the end of a window beyond it. -/
theorem witness_BoundaryAppliesChange_settles :
    let r (stop : Nat) : Record := { leapRecord .settling with window := some ⟨86400, stop, stop - 86400, 37, 38⟩ }
    ([(86436, 86438), (86437, 86438), (86498, 86500), (86499, 86500)].map fun (n, stop) =>
      let s := planned n [r stop] []
      (decide (s.running = true ∧ s.scale.clearPending = false ∧ r stop ∈ s.records ∧ (r stop).affected = some 86437),
        (after .secondBoundary s).time.t, (after .secondBoundary s).records.length)) =
      [(true, some 86437, 1), (true, some 86438, 0), (true, some 86499, 1), (true, some 86500, 0)] ∧
    (planned 86436 [r 86438] []).recordsFit :=
  ⟨by decide +kernel, by unfold State.recordsFit changesFit idsFit; decide +kernel⟩
/-- No BASELINE is ARMED. -/
theorem baselines_of {s : State} (h : (s.scale.groups.map Group.affected).Nodup)
    (k : s.records.all (fun r => !(r.change.isBaseline && r.state == .armed)) = true)
    (l : ∀ r ∈ s.records, r.change.isBaseline = true → r.state ≠ .armed → r.affected = none) : s.baselinesNext :=
  ⟨h, fun r hr hb ha => absurd (List.all_eq_true.mp k r hr) (by simp [hb, ha]), l⟩

/-- The device with one record of the operator, QUALIFIED. -/
def lone (c : Change) (a : Option Nat) : State := withRecords [plainRecord 7 c a .operator .qualified] ready

/-- A lone SHIFT at the arming lead and one second nearer (late), and a BASELINE, each armed with its notice; two groups in
one pass; a BASELINE left beside one that arms; and a leap with its window. -/
theorem witness_BoundaryLeavesNothingDue :
    (two.running = true ∧ (after .secondBoundary two).time.t = some 90001 ∧
      (after .secondBoundary two).records.length = 2) ∧
    ([lone (.shift 3 60 90901) (some 90901), lone (.shift 3 60 90900) (some 90900), lone (.baseline 38) none].map fun s =>
      let t := after .secondBoundary s
      (t.records.map fun r => (r.tag, r.affected, r.late), (t.lane 2).board.map fun e => e.notice.code)) =
      [([(some 1, some 90901, false)], [0x50]), ([(some 1, some 90900, true)], [0x50]),
        ([(some 1, some 90002, false)], [0x50])] ∧
    (let s := lone (.shift 3 60 90900) (some 90900);
      s.recordsFit ∧ s.baselinesNext ∧ s.still ∧ s.records = [plainRecord 7 (.shift 3 60 90900) (some 90900) .operator .qualified] ∧
      s.scale.groups = [] ∧ s.rehearsal.phase = .none ∧ s.occupied 2 = true ∧ (s.lane 2).board = []) ∧
    (let s := withRecords [plainRecord 7 (.shift 3 60 90009) (some 90009) .operator .qualified,
        plainRecord 8 (.shift 4 60 90005) (some 90005) .operator .qualified] ready;
      s.recordsFit ∧ (after .secondBoundary s).records.map (fun r => (r.id, r.tag)) = [(8, some 1), (7, some 2)]) ∧
    (let s := withRecords [plainRecord 4 (.baseline 10) none .operator .qualified,
        plainRecord 5 (.baseline 20) none .operator .qualified] ready;
      s.recordsFit ∧ (after .secondBoundary s).records.map (fun r => (r.id, r.state)) = [(4, .armed), (5, .qualified)]) ∧
    (after .secondBoundary (planned 86000 [leapRecord .qualified] [])).records.map Record.window =
      [some ⟨86001, 86438, 437, 37, 38⟩] :=
  ⟨by decide +kernel, by decide +kernel, ⟨by unfold State.recordsFit changesFit idsFit; decide +kernel,
    baselines_of (by decide +kernel) (by decide +kernel) (by decide +kernel), by unfold State.still; decide +kernel⟩,
    by unfold State.recordsFit changesFit idsFit; decide +kernel,
    by unfold State.recordsFit changesFit idsFit; decide +kernel, by decide +kernel⟩

/-- Re-times: past the second of an ARMED leap, and to it; before it; and of a rehearsal, moved, to 2^40 − 1 and beyond. -/
theorem witness_BoundaryLeavesNothingDue_retime :
    let retime (x : Nat) : State → State := withTime fun b => { b with pendingTime := some x }
    (armed.running = true ∧ armed.time.t = some 86436 ∧ armed.scale.clearPending = false ∧ armed.recordsFit ∧
      armed.still ∧ armed.records = [leapRecord .armed] ∧ armed.rehearsal.phase = .none ∧ armed.occupied 2 = true) ∧
    ([86440, 86438, 86400].map fun x =>
      let t := after .secondBoundary (retime x armed)
      (t.time.t, t.records.length, (t.lane 2).board.map BoardEntry.notice)) =
      [(some 86440, 0, [.missed 1 (.leap .insert 1) true 86437]),
        (some 86438, 0, [.missed 1 (.leap .insert 1) true 86437]), (some 86400, 1, [])] ∧
    ((rehearsing .armed 90020).still ∧ (rehearsing .armed 90020).records = []) ∧
    ([300, 2 ^ 40 - 20, 2 ^ 40 - 19].map fun x =>
      (after .secondBoundary (retime x (rehearsing .armed 90020))).rehearsal.affected) =
      [some 319, some (2 ^ 40 - 1), none] :=
  ⟨⟨by decide +kernel, by decide +kernel, by decide +kernel, armed_fits, by unfold State.still; decide +kernel⟩,
    by decide +kernel, by unfold State.still; decide +kernel, by decide +kernel⟩

/-- The rule set of one transition, of zone 3. -/
def rules : RuleStore := { serial := 5, transitions := [⟨3, 90003, 60, false⟩] }

/-- A load to be verified at the boundary that is due. -/
def verifying (image : List Byte) : State :=
  withLane { owing with owed := some ⟨.accepted, 0x22, 0, [], true⟩ }
    (withTime (fun b => { b with frame := 999, due := .second }) (withLoader .verifying 20 0 image))

theorem witness_BoundaryVerifiesLoad :
    let s := verifying (ruleImage 5 rules.transitions)
    s.running = true ∧ s.time.due = .second ∧ s.loader.state = .verifying ∧ s.loader.claimer = some .a ∧
    (s.lane (ctlPos .a)).owed = some ⟨.accepted, 0x22, 0, [], true⟩ ∧ verdict s.loader = .ok rules ∧
    (s.lane (ctlPos .a)).sending = none ∧
    (after .realignment (withTime (fun b => { b with due := .realign 500 }) s)).rules = rules ∧
    verdict (verifying (List.replicate 20 0)).loader = .error (.checkFailed, 255) ∧
    verdict (verifying (ruleImage 6 rules.transitions)).loader = .error (.badContent, 255) := by decide +kernel
/-- A wrong check value, each fault of the header, and each of a second transition: a zone and an offset out of range, the
transition before it again; and one that passes. -/
theorem witness_BoundaryVerifiesLoad_image :
    let x (z : Nat) (o : Int) (i : Nat) : Transition := { zone := z, instant := i, offset := o, skipped := false }
    let load (image : List Byte) : Loader :=
      { Loader.initial with length := image.length, serial := 5, buffer := image }
    let body (xs : List Transition) : List Byte := imageBody 5 xs
    let sealed (b : List Byte) : List Byte := b ++ beBytes 4 (crc32 b).toNat
    let failure (b : List Byte) : Option (Code × Nat) := match verdict (load b) with
      | .error e => some e
      | .ok _ => none
    let head := body [x 3 60 90003]
    ([body [] ++ [0, 0, 0, 0], sealed (head.set 0 2), sealed (head.set 1 2), sealed (head.set 5 6), sealed (head.set 7 1)].map
      failure) = [some (.checkFailed, 255), some (.badContent, 255), some (.badContent, 255), some (.badContent, 255),
        some (.badContent, 255)] ∧
    (([x 3 60 90004, x 4 840 5, x 16 0 5, x 4 841 5, x 3 60 90003, x 2 0 90009] : List Transition).map fun y =>
      failure (sealed (body [x 3 60 90003, y]))) =
      [none, none, some (.badContent, 1), some (.badContent, 1), some (.badContent, 1), some (.badContent, 1)] ∧
    (load (sealed head)).buffer.length = (load (sealed head)).length ∧ failure (sealed head) = none ∧
    failure (sealed (body [])) = none := by decide +kernel
/-- An install over a drawn record, an ARMED RULESET record and an OPERATOR record: the first leaves, and the new store's
transition of that zone is drawn. -/
theorem witness_BoundaryVerifiesLoad_install :
    let s := withRecords
      [plainRecord 7 (.shift 3 0 90009) (some 90009) .ruleset .qualified,
        { plainRecord 8 (.shift 4 0 90004) (some 90004) .ruleset .armed with tag := some 1 },
        plainRecord 9 (.shift 5 0 90005) (some 90005) .operator .qualified]
      { verifying (ruleImage 5 rules.transitions) with scale := { ready.scale with groups := [⟨90004, 1, none⟩] } }
    let t := after .secondBoundary s
    s.recordsFit ∧ s.armedInGroups ∧ s.tagsDistinct ∧
    (s.running = true ∧ s.scale.clearPending = false ∧ s.time.newT = some 90001 ∧ verdict s.loader = .ok rules ∧
      (∀ i, (s.source i).state ≠ .listening ∧ (s.source i).state ≠ .vouching) ∧ s.occupied (ctlPos .a) = true ∧
      (s.lane 0).board = []) ∧
    ((t.records.map fun r => (r.change, r.state, r.origin)) =
      [(.shift 3 60 90003, .armed, .ruleset), (.shift 4 0 90004, .armed, .ruleset), (.shift 5 0 90005, .armed, .operator)] ∧
      ((t.lane 0).board.any fun e => e.notice = .withdrawn 7 (.shift 3 0 90009) .replaced) = true) :=
  ⟨by unfold State.recordsFit changesFit idsFit; decide +kernel, by unfold State.armedInGroups; decide +kernel,
    by unfold State.tagsDistinct; decide +kernel, by decide +kernel, by decide +kernel⟩

/-- The transition stands at b + 2. -/
theorem witness_BoundaryDraws :
    let s : State := { ready with rules := rules }
    let x : Transition := ⟨3, 90003, 60, false⟩
    s.running = true ∧ (∀ p, s.time.due ≠ .realign p) ∧ s.recordsFit ∧ s.scale.clearPending = false ∧
    s.loader.state ≠ .verifying ∧ s.time.newT = some 90001 ∧ s.zoneRecord 3 = none ∧
    (x ∈ s.rules.transitions ∧ x.zone = 3 ∧ x.skipped = false ∧ 90001 + 2 ≤ x.instant) ∧
    ∀ y ∈ s.rules.transitions, y.zone = 3 → y.skipped = false → 90001 + 2 ≤ y.instant → x.instant < y.instant ∨ y = x :=
  ⟨by decide +kernel, not_realign (.inl rfl), by unfold State.recordsFit changesFit idsFit; decide +kernel,
    by decide +kernel, by decide +kernel, by decide +kernel, by decide +kernel, by decide +kernel, by decide +kernel⟩

theorem witness_QuietFramesCallAndReset :
    (armed.running = true ∧ armed.time.due = .nothing ∧ armed.time.frame ≤ 980 ∧ (atFrame 980).time.frame ≤ 980 ∧
      armed.time.t = some 86436 ∧
      (armed.scale.groups.filter fun x => x.affected == 86436 + 1 && x.roll.isNone) = [⟨86437, 1, none⟩] ∧
      (armed.pos 0).state = .inStep ∧ (armed.pos 0).ready ≠ 1 ∧ armed.occupied 0 = true ∧
      (armed.lane 0).board.length ≤ 10 ∧
      ((after .quietFrames armed).lane 0).board.map (fun e => (e.notice.code, e.notice.subject)) = [(0x58, 0), (0x58, 2)]) ∧
    (let s := { withCard { card .none with cursor := some (some 0, 0) } with
        lanes := ready.lanes.put 2 { Lane.initial with sending := some ⟨[0x55, 0], 0, .offer⟩ } };
      s.occupied 2 = true ∧ ((after .quietFrames s).pos 2).cursor = none) ∧
    let s := rehearsing .armed 90001
    s.running = true ∧ s.time.due = .nothing ∧ s.time.frame < 980 ∧ s.time.t = some 90000 ∧ s.scale.groups = [] ∧
    s.rehearsal.phase = .armed ∧ s.rehearsal.tag = some 1 ∧ s.rehearsal.affected = some (90000 + 1) := by decide +kernel
/-- Due, with a response in transfer on a lane; with a leap due at the boundary, its roll call to come; with a rehearsal
due there; with nothing else afoot; and not due. -/
theorem witness_RealignmentRenumbers :
    let due : State → State := withTime fun b => { b with due := .realign 500 }
    let k : Tracker := { mode := .aligned, candidate := some 1, run := 4, misses := 0, interval := 999, lastBit := false }
    (let s := due (withLane { owing with sending := some ⟨[0x80, 0], 1, .response⟩, offer := true } ready);
      s.running = true ∧ s.time.due = .realign 500 ∧ s.occupied 0 = true ∧ s.loader.state ≠ .verifying ∧
      ((after .realignment s).lane 0).inbound = .opened) ∧
    (let s := due armed;
      s.running = true ∧ s.time.due = .realign 500 ∧ s.recordsFit ∧ s.time.t = some 86436 ∧ s.time.pendingTime = none ∧
      s.scale.clearPending = false ∧ s.scale.inserting = none ∧
      (s.scale.groups.filter fun x => x.affected == 86436 + 1) = [⟨86437, 1, none⟩] ∧
      s.members 1 = [leapRecord .armed] ∧ s.scale.d = some 37) ∧
    (let s := due (applying (.leap .delete 1) 1);
      s.running = true ∧ s.recordsFit ∧ s.scale.d = some 1 ∧ leapInRange .delete 1 = true ∧
      (after .realignment s).records.map (fun r => (r.state, r.roll.isSome)) = [(.settling, true)]) ∧
    (let s := due (rehearsing .armed 90001);
      s.running = true ∧ s.time.due = .realign 500 ∧ s.time.t = some 90000 ∧ s.time.pendingTime = none ∧
      s.scale.clearPending = false ∧ s.scale.groups = [] ∧ s.rehearsal.phase = .armed ∧ s.rehearsal.tag = some 1 ∧
      s.rehearsal.affected = some (90000 + 1)) ∧
    (let s := due ready;
      s.running = true ∧ s.time.due = .realign 500 ∧ s.still ∧ s.records = [] ∧ s.scale.groups = [] ∧
      s.rehearsal.phase = .none ∧ s.occupied (ctlPos .a) = true ∧ (s.lane (ctlPos .a)).board = []) ∧
    (tracked k).running = true ∧ (tracked k).time.due = .nothing ∧
    (tracked k).time.holder = some .a ∧ ((tracked k).time.tracker .a).mode = .aligned ∧
    ((tracked k).time.tracker .a).candidate = some 1 ∧ (tracked k).time.frame < 1 :=
  ⟨by decide +kernel, ⟨by decide +kernel, by decide +kernel, by unfold State.recordsFit changesFit idsFit; decide +kernel,
    by decide +kernel⟩, ⟨by decide +kernel, by unfold State.recordsFit changesFit idsFit; decide +kernel, by decide +kernel⟩,
    by decide +kernel, by unfold State.still; decide +kernel, by decide +kernel⟩
theorem witness_TimersRunOut :
    let k : Tracker := { mode := .aligned, candidate := some 0, run := 4, misses := 1, interval := 1000, lastBit := false }
    (tracked k).running = true ∧ (tracked k).settled ∧ ((tracked k).time.tracker .a).mode = .aligned ∧
    1000 ≤ ((tracked k).time.tracker .a).interval ∧
    (let s := withSource (entry .listening 299);
      (s.source 0).state = .listening ∧ s.value Config.stalenessLimit ≤ min 65535 ((s.source 0).silence + 1) ∧
      s.recordsFit ∧ s.occupied (ctlPos .a) = true ∧ (s.lane (ctlPos .a)).board = [] ∧
      ((after (.stale 0) s).lane 0).board.map (fun e => (e.notice.code, e.notice.subject)) = [(0x59, 0)]) ∧
    ((withCard { card .none with takeCheck := some 1 }).pos 2).takeCheck = some 1 ∧
    (let s := withCard { card .none with state := .lagging, lag := 9 };
      (s.pos 2).state = .lagging ∧ (s.pos 2).intent = .following ∧
      s.value Config.lagLimit ≤ min 255 ((s.pos 2).lag + 1) ∧ s.occupied (ctlPos .a) = true ∧
      ((after (.lagLimitReached 2) s).lane 0).board.map (fun e => (e.notice.code, e.notice.subject)) = [(0x58, 2)]) := by
  unfold State.settled State.recordsFit changesFit idsFit; decide +kernel

/-- The clauses of a boundary: an entry at its limit and one below it; a view that becomes spent, with nothing else afoot;
a take check that runs out on a card that holds another generation and on one that holds G; a take check set afresh; a lag
timer that runs out; and a LAGGING card that holds G. -/
theorem witness_TimersRunOut_boundary :
    let due : State → State := withTime fun b => { b with frame := 999, due := .second }
    ([299, 298].map fun n =>
      let s := due (withSource (entry .listening n))
      (s.running, s.time.due, s.scale.clearPending, ((after .secondBoundary s).source 0).state)) =
      [(true, .second, false, .stale), (true, .second, false, .listening)] ∧
    (let s := due (withTime (fun b => { b with t := some 86437 })
        (withSource { entry .muted 0 with vouched := some ⟨37, some ⟨.insert, 1, false⟩⟩ }));
      s.still ∧ s.records = [] ∧ s.scale.groups = [] ∧ s.rehearsal.phase = .none ∧
      (s.source 0).spent s.time.t ≠ (s.source 0).spent (after .secondBoundary s).time.t ∧
      s.occupied (ctlPos .a) = true ∧ (s.lane (ctlPos .a)).board = []) ∧
    (([{ card .none with held := some 9, takeCheck := some 1 }, { card .none with takeCheck := some 1 },
        { card .none with state := .lagging, held := some 9, lag := 9 }, { card .none with state := .lagging }] :
        List Position).map fun x =>
      let t := after .secondBoundary (due (withCard x))
      ((t.pos 2).state, (t.pos 2).takeCheck)) =
      [(.lagging, none), (.inStep, none), (.dropped, none), (.inStep, none)] ∧
    (let s := due (withCard { card .none with state := .lagging, held := some 9, lag := 9 });
      s.still ∧ s.records = [] ∧ s.scale.groups = [] ∧ s.rehearsal.phase = .none ∧
      ((after .secondBoundary s).lane 0).board.map (fun e => (e.notice.code, e.notice.subject)) = [(0x58, 2)]) ∧
    ((after .secondBoundary several).pos 2).takeCheck = some 2 := by
  unfold State.still; decide +kernel
theorem witness_LoadTimesOut :
    let s := withLoader .loading 12 1 [7]
    s.running = true ∧ s.settled ∧ s.loader.state = .loading ∧ s.loader.timer ≤ 1 ∧ s.loader.claimer = some .a ∧
    s.occupied (ctlPos .a) = true ∧ (s.lane (ctlPos .a)).board.length < 48 := by
  unfold State.settled; decide +kernel

/-- A response to send; a notice to send, no response owed; and no lane free in frame 0. -/
theorem witness_TransferBegins :
    let s := withLane owing (atFrame 968)
    let n := withLane { Lane.initial with board := [⟨1, .leadChanged (some .a)⟩] } (atFrame 5)
    s.running = true ∧ s.time.due = .nothing ∧ s.settled ∧ s.laneFree 0 = true ∧ (s.lane 0).sendable.isSome = true ∧
    ((after (.transferBegin 0) s).lane 0).sending.isSome = true ∧
    n.settled ∧ n.laneFree 0 = true ∧ (n.lane 0).sendable = none ∧ (n.lane 0).oldest.isSome = true ∧
    (withLane owing (atFrame 0)).settled ∧ (withLane owing (atFrame 0)).laneFree 0 = false := by
  unfold State.settled; decide +kernel
/-- R173: of a board of three classes the change class goes first, of it the entry that joined first, of two of one moment the
lower kind; then the roster and source class. -/
theorem witness_TransferBegins_classes :
    let slot : BoardEntry := ⟨1, .slotState 2 (card .none).report⟩
    let b : List BoardEntry := [⟨1, .timeSlip 7⟩, ⟨3, .withdrawn 9 (.baseline 0) .met⟩, ⟨3, .missed 4 (.baseline 0) false 0⟩,
      ⟨4, .withdrawn 2 (.baseline 0) .met⟩]
    let s (b : List BoardEntry) : State := { withLane { Lane.initial with board := b } (atFrame 5) with moment := 9 }
    (s (slot :: b)).settled ∧ (s (slot :: b)).boardsOrdered ∧ (s (slot :: b)).laneFree 0 = true ∧
    ([slot :: b, [slot, ⟨1, .timeSlip 7⟩]].map fun b =>
      ((after (.transferBegin 0) (s b)).lane 0).sending.map fun x => x.bytes.take 3) =
      [some [0x51, 6, 9], some [0x58, 8, 2]] := by
  unfold State.settled State.boardsOrdered BoardEntry.goesFirst; decide +kernel
/-- A frame before the quiet ones and a quiet one; and at the end of a frame the card's three answers: its take toggle
stands, and it takes a byte, the last one and one before it. -/
theorem witness_TransferCompletes :
    let x : Transfer := ⟨[0x40, 2, 0, 0x14], 3, .response⟩
    let l : Lane := { owing with sending := some x, offer := true }
    let s := withLane l ready
    (s.running = true ∧ s.time.due = .nothing ∧ s.settled ∧ (s.lane 0).sending = some x ∧ x.taken < x.bytes.length) ∧
    (let q := withLane l (atFrame 980);
      q.running = true ∧ q.time.due = .nothing ∧ q.settled ∧ (q.lane 0).sending = some x) ∧
    ([(0, 3), (0x40000, 3), (0x40000, 1)] : List (BitVec 48 × Nat)).map (fun (c, n) =>
      let s := withLane { l with sending := some { x with taken := n } } ready
      let t := after (.frameEnd [0x200000000000 ||| c] {}) s
      (s.occupied 0, t.occupied 0, decide (s.time.frame < 979), (segmentOf [0x200000000000 ||| c] 0).take,
        (t.lane 0).sending.map fun y => y.taken)) =
      [(true, true, true, false, some 3), (true, true, true, true, none), (true, true, true, true, some 2)] := by
  unfold State.settled; decide +kernel
theorem witness_BadParcelsAnswered :
    ready.settled ∧ ready.hears 2 = true ∧ malformed [0x14, 1] = some 0x14 ∧ (0x77 : Byte) ∉ requestKinds ∧
    (List.replicate 30 (0 : Byte)).length ≤ 30 :=
  ⟨ready_settled, ready_hears.2.1, by decide +kernel, by decide +kernel, by decide +kernel⟩
/-- A length byte of 30, the greatest, with as many bytes, and with one less. At the end of a frame: no byte on offer; a
first byte in frame 948, and in frame 949; the last byte of a WITHDRAW, of a parcel of no request kind, of a malformed one
and of a QUERY. -/
theorem witness_ParcelForm :
    (Lane.initial.inbound = .opened ∧
      feed (0x21 :: 30 :: List.replicate 30 7) Lane.initial =
        ({ Lane.initial with inbound := .held }, some (0x21, List.replicate 30 7)) ∧
      malformed (0x21 :: 30 :: List.replicate 29 7) = some 0x21 ∧
      malformed (0x21 :: 31 :: List.replicate 31 7) = some 0x21) ∧
    ([(948, [], 0x0), (948, [], 0x100000), (949, [], 0x100000), (949, [0x14, 1], 0x1A0000), (5, [0x77, 1], 0x1A0000),
        (5, [0x14, 2], 0x1A0000), (5, [0x30, 2, 2], 0x180000)] : List (Nat × List Byte × BitVec 48)).map (fun (f, b, c) =>
      let l : Lane := { Lane.initial with inbound := if b = [] then .opened else .receiving, buffer := b }
      let s := withLane l (atFrame f)
      let t := after (.frameEnd [0x200000000000 ||| c] {}) s
      (s.running && s.occupied 0 && t.occupied 0 && (s.lane 0).sending.isNone, (t.lane 0).take,
        (t.lane 0).owed.map fun a => (a.code, a.content.take 3))) =
      [(true, false, none), (true, true, none), (true, false, none), (true, true, some (.outOfRange, [])),
        (true, true, some (.unknownKind, [])), (true, true, some (.badForm, [0x14])),
        (true, true, some (.accepted, [0, 0, 2]))] := by decide +kernel
/-- Controller A's segment with the last byte `b` of a parcel, and the lane that has taken the bytes before it, in frame 978. -/
def lastByte (b : BitVec 48) : List (BitVec 48) := [0x200000180000 ||| (b <<< 21)]
def receiving (bytes : List Byte) (s : State) : State :=
  withTime (fun b => { b with frame := 978 }) (withLane { Lane.initial with inbound := .receiving, buffer := bytes } s)

/-- That state with the lane OPEN, in frame 0. -/
def opened (s : State) : State := withTime (fun b => { b with frame := 0 }) (withLane Lane.initial s)

/-- Two states agree on what a request of one frame may change. -/
def alike (t u : State) : Bool :=
  decide (t.pins = u.pins ∧ t.labels = u.labels ∧ t.sources = u.sources ∧ t.sched = u.sched) &&
  decide (t.scale = u.scale ∧ t.zones = u.zones ∧ t.rules = u.rules ∧ t.settings = u.settings) &&
  decide (t.store = u.store ∧ t.moment = u.moment ∧ t.pending = u.pending ∧ t.rehearsal = u.rehearsal) &&
  decide (t.loader = { u.loader with fresh := false } ∧ (t.lane 0).owed = (u.lane 0).owed ∧
    (t.lane 0).inbound = .held ∧ t.time.pendingTime = u.time.pendingTime) &&
  allPos.all fun p => (t.lane p).sending.isSome || decide ((t.lane p).board = (u.lane p).board)

/-- The last byte of a WITHDRAW of the armed record, at the end of frame 978, in which nothing else comes: answered and judged
as its own command, under each order of the frame's work. So is a RULESET_FINISH of a short load, whose timer falls by one. A
MUTE_SOURCE of action 2 is out of range. -/
theorem witness_ParcelForm_request :
    (∀ q, (receiving [0x14, 1] armed).unmoved (lastByte 1) q) ∧
    ((receiving [0x14, 1] armed).running = true ∧ (receiving [0x14, 1] armed).time.due = .nothing ∧
      (receiving [0x14, 1] armed).arrivals (lastByte 1) = [(0, 0x14, [1])] ∧
      Request.parse 0x14 [1] = .ok (.withdraw 1) ∧ requestOf (.withdraw 0 1) = some (0, .withdraw 1) ∧
      (receiving [0x14, 1] armed).loader.state ≠ .loading) ∧
    (∀ first ∈ [true, false],
      let t := after (.frameEnd (lastByte 1) { requestsFirst := first }) (receiving [0x14, 1] armed)
      alike t (after (.withdraw 0 1) (opened armed)) = true ∧ t.time.holder = some .a ∧ t.records = []) ∧
    ((∀ q, (receiving [0x22] (withLoader .loading 12 7 [1])).unmoved (lastByte 0) q) ∧
      ∀ first ∈ [true, false],
        let t := after (.frameEnd (lastByte 0) { requestsFirst := first }) (receiving [0x22] (withLoader .loading 12 7 [1]))
        alike t (after (.rulesetFinish 0) (opened (withLoader .loading 12 6 [1]))) = true ∧ t.loader.timer = 6) ∧
    ((after (.frameEnd (lastByte 2) {}) (receiving [0x18, 3, 0, 0] ready)).lane 0).owed =
      some ⟨.outOfRange, 0x18, 0, [], false⟩ :=
  ⟨by unfold State.unmoved; decide +kernel, by decide +kernel, by decide +kernel,
    ⟨by unfold State.unmoved; decide +kernel, by decide +kernel⟩, by decide +kernel⟩
theorem witness_RequestRoundTrip :
    (Request.rulesetData (List.replicate 30 7)).payload.length ≤ 30 ∧
    Request.parse 0x18 [11, 2, 0] = .ok (.muteSource 11 2 0) := by decide +kernel
theorem witness_RefusedChangesNothing :
    requestOf (.withdraw 0 0) = some (0, .withdraw 0) ∧ ready.settled ∧ ready.hears 0 = true ∧
    (Request.withdraw 0).payload.length ≤ 30 ∧ (∃ t, exec (.withdraw 0 0) ready = .next t) ∧
    codeOf 0 ready (.withdraw 0 0) = some .outOfRange :=
  ⟨rfl, ready_settled, ready_hears.1, by decide, next_of (by decide +kernel), by decide +kernel⟩

/-- A new key beside a FREE entry; in a full table beside a STALE entry, the longest unheard, and with none. -/
theorem witness_AnnounceJudged :
    (ready.settled ∧ ready.hears 0 = true ∧ ready.hears 2 = true ∧ ready.roomFor = some 0) ∧
    let full (st : Nat → SourceState) : State := { ready with
      sources := .build 16 fun i => { entry (st i.val) i.val with key := some ⟨⟨4 + i.val / 3 % 8, by omega⟩,
        if i.val % 3 = 0 then .network else if i.val % 3 = 1 then .satellite else .operator⟩ } }
    let stale := full fun i => if i = 3 ∨ i = 9 then .stale else .muted
    stale.settled ∧ stale.hears 0 = true ∧ stale.roomFor = some 9 ∧
    (full fun _ => .muted).settled ∧ (full fun _ => .muted).hears 0 = true ∧
    codeOf 0 (full fun _ => .muted) (.announce 0 0 37 0 none) = some .tableFull := by
  unfold State.settled; decide +kernel
/-- The ends of the effective day: 1 and 12725829. -/
theorem witness_AnnouncedViews :
    announcedView (some 90000) 37 1 (some 86438) = .ok ⟨37, some ⟨.insert, 1, false⟩⟩ ∧
    announcedView (some 90000) 37 1 (some 38) = .error .outOfRange ∧
    announcedView (some 90000) 37 1 (some 1099511625638) = .ok ⟨37, some ⟨.insert, 12725829, false⟩⟩ ∧
    announcedView (some 90000) 37 1 (some 1099511712038) = .error .outOfRange ∧
    announcedView (some 90000) 37 2 (some 86436) = .ok ⟨37, some ⟨.delete, 1, false⟩⟩ := by decide +kernel
/-- What a changed entry brings: a new entry is told; one that goes VOUCHING with a new view, once marked, is told, loses its
mark, and its view is tallied. -/
theorem witness_AnnounceJudged_heard :
    (ready.recordsFit ∧ ready.occupied (ctlPos .a) = true ∧ (ready.lane (ctlPos .a)).board = [] ∧
      ((after (.announce 0 1 37 0 none) ready).lane 0).board.map (fun e => (e.notice.code, e.notice.subject)) = [(0x59, 0)]) ∧
    let s := withSource { entry .listening 0 with run := 9, candidate := some ⟨40, none⟩ }
    let s : State := { s with sched := { s.sched with marks := s.sched.marks.put 0 true } }
    let t := after (.announce 0 0 40 0 none) s
    s.settled ∧ s.hears 0 = true ∧ (t.source 0).state = .vouching ∧ t.sched.marks.get 0 = false ∧
    t.records.map (fun r => (r.change, r.state)) = [(.baseline 40, .heard)] ∧
    (t.lane 0).board.map (fun e => (e.notice.code, e.notice.subject)) = [(0x59, 0)] := by
  unfold State.settled State.recordsFit changesFit idsFit; decide +kernel
/-- An entry muted and unmuted; each is told, and the one that vouches again is tallied. -/
theorem witness_MuteSourceJudged :
    let s := withSource { entry .muted 0 with vouched := some ⟨40, none⟩ }
    let t := after (.muteSourceUnmute 0 0 0) s
    s.settled ∧ s.hears 0 = true ∧ s.recordsFit ∧ s.occupied (ctlPos .a) = true ∧ (s.lane (ctlPos .a)).board = [] ∧
    (t.source 0).state = .vouching ∧ t.records.map (fun r => (r.change, r.state)) = [(.baseline 40, .heard)] ∧
    (t.lane 0).board.map (fun e => (e.notice.code, e.notice.subject)) = [(0x59, 0)] ∧
    ((after (.muteSourceMute 0 0 0) (withSource (entry .listening 0))).lane 0).board.map
      (fun e => (e.notice.code, e.notice.subject)) = [(0x59, 0)] := by
  unfold State.settled State.recordsFit changesFit idsFit; decide +kernel
/-- The request; a pending value, one that confirms among them, at a boundary and at a realignment, also with a CLEAR_SCALE
pending; the frame in which the lead holder's role leaves LEAD; and a device whose T is unknown. -/
theorem witness_SetTimeJudged :
    (armed.settled ∧ armed.hears 0 = true) ∧
    ([Due.second, .realign 500].flatMap fun due => [90001, 500].map fun x =>
      let s := withTime (fun b => { b with due := due, pendingTime := some x }) (after (.clearScale 0) ready)
      let c := if due = .second then Instr.secondBoundary else .realignment
      (decide (s.running = true ∧ s.time.due = due ∧ s.time.pendingTime = some x ∧ s.scale.clearPending = true ∧
        s.time.t = some 90000), (after c s).scale.d, (after c s).time.t)) =
      [(true, none, some 90001), (true, none, some 500), (true, none, some 90001), (true, none, some 500)] ∧
    (let s := withTime (fun b => { b with frame := 10, pendingTime := some 500 }) ready;
      let s : State := { s with roster := s.roster.put 0 { s.pos 0 with sRole := ⟨some .standby, 2⟩ } };
      let segs : List (BitVec 48) := [0b001001 <<< 42];
      s.running = true ∧ s.time.due = .nothing ∧ (requestsOf (s.arrivals segs)).isEmpty = true ∧
      s.time.holder = some .a ∧ (after (.frameEnd segs {}) s).time.holder = none ∧
      (after (.frameEnd segs {}) s).time.pendingTime = some 500) ∧
    ((device none (some 37)).time.t = none ∧ (device none (some 37)).armedGroups = [] ∧
      (after .secondBoundary (device none (some 37))).time.t = none) :=
  ⟨armed_settled, by decide +kernel, by decide +kernel, by decide +kernel⟩
/-- A source in use with the view of offset `ds` and no leap, or with the leap given. -/
def voucher (p : Pos) (o : SourceOrigin) (ds : Nat) (leap : Option LeapView) : Source :=
  { entry .vouching 0 with key := some ⟨p, o⟩, vouched := some ⟨ds, leap⟩ }

/-- The device with these records and this withdrawn list, at D 37. -/
def offering (records : List Record) (listed : List Change) : State :=
  let s := withRecords records ready
  { s with sched := { s.sched with listed := listed.map fun c => ⟨c, .request, none⟩ } }.sync

/-- The request, and an ARMED BASELINE to the value. -/
theorem witness_SetOffsetJudged :
    ready.settled ∧ ready.hears 0 = true ∧ ready.recordsFit ∧ ready.listFits ∧
    let s := applying (.baseline 42) 37
    s.settled ∧ s.hears 0 = true ∧
    (after (.setOffset 0 42) s).records.map (fun r => (r.state, r.origin)) = [(.armed, .operator)] :=
  ⟨ready_settled, ready_hears.1, ready_fits, by unfold State.listFits; decide +kernel,
    by unfold State.settled; decide +kernel⟩
/-- SOURCES BASELINEs replaced beside a full withdrawn list that holds the item for the value. -/
theorem witness_SetOffsetJudged_replaced :
    let s := offering [plainRecord 1 (.baseline 40) none .sources .held, plainRecord 2 (.baseline 41) none .sources .heard]
      ((List.range 7).map (fun i => .leap .insert (i + 2)) ++ [.baseline 42])
    let u := after (.setOffset 0 42) s
    s.settled ∧ s.hears 0 = true ∧ s.recordsFit ∧ s.listFits ∧ s.sched.listed.length = 8 ∧
    u.records.map (fun r => (r.change, r.state, r.origin)) = [(.baseline 42, .qualified, .operator)] ∧
    (u.lane 0).board.map BoardEntry.notice =
      [.withdrawn 1 (.baseline 40) .replaced, .withdrawn 2 (.baseline 41) .replaced] := by
  unfold State.settled State.recordsFit State.listFits changesFit idsFit; decide +kernel
/-- A full class of leaps: of the HEARD ones the one of the lowest tally yields, of two level ones the one whose creation is
unknown. -/
theorem witness_SetOffsetJudged_displaced :
    let leap (id e v : Nat) (c : Option Nat) (st : RecordState) : Record :=
      { plainRecord id (.leap .insert e) (some (86400 * (e + 1) + 37)) .sources st with vouch := v, created := c }
    let s := offering [leap 1 2 4 none .qualified, leap 2 3 2 (some 5) .heard, leap 3 4 2 none .heard,
      leap 4 5 3 none .heard, leap 5 6 4 none .qualified] []
    let voters := [voucher 3 .network 37 (some ⟨.insert, 3, false⟩), voucher 5 .network 37 (some ⟨.insert, 5, false⟩)]
    let s : State := { s with sources := .build 16 fun i => voters.getD i.val .initial
                              sched := { s.sched with cursor := 5 } }
    s.settled ∧ s.hears 0 = true ∧ s.recordsFit ∧ s.listFits ∧
    (after (.setOffset 0 42) s).records.map (fun r => (r.id, r.change)) =
      [(1, .leap .insert 2), (2, .leap .insert 3), (4, .leap .insert 5), (5, .leap .insert 6), (6, .baseline 42)] ∧
    ((after (.setOffset 0 42) s).lane 0).board.map BoardEntry.notice = [.withdrawn 3 (.leap .insert 4) .displaced] := by
  unfold State.settled State.recordsFit State.listFits changesFit idsFit; decide +kernel
theorem witness_ConfirmAndClearJudged : ready.settled ∧ ready.hears 0 = true := ⟨ready_settled, ready_hears.1⟩
theorem witness_WithdrawJudged : armed.settled ∧ armed.hears 0 = true := armed_settled
theorem witness_WithdrawalTakesOut :
    armed.recordsOrdered ∧ leapRecord .armed ∈ armed.records ∧ (leapRecord .armed).origin = .sources ∧
    (leapRecord .armed).state = .armed := by unfold State.recordsOrdered; decide +kernel
/-- The device with a record of zone 3, whose transition the store holds, beside a BASELINE. -/
def zoned (o : RecordOrigin) (st : RecordState) : State :=
  let z := { plainRecord 4 (.shift 3 0 90003) (some 90003) o st with
    ref := if o = .ruleset then some (3, 90003) else none, tag := if st = .armed then some 1 else none }
  ({ withRecords [z, plainRecord 6 (.baseline 50) none .operator .held] ready with
    rules := { serial := 5, transitions := [⟨3, 90003, 0, false⟩] } }).sync

/-- What a SHIFT_ZONE of that zone answers and leaves. -/
def rezoned (s : State) : Option Code × List (Nat × Change) × List Bool × List Notice :=
  let t := after (.shiftZone 0 3 60 90002) s
  (codeOf 0 s (.shiftZone 0 3 60 90002), t.records.map (fun r => (r.id, r.change)),
    t.rules.transitions.map Transition.skipped, (t.lane 0).board.map BoardEntry.notice)

/-- A zone whose record is QUALIFIED of origin OPERATOR, of origin RULESET (its transition is skipped), and ARMED (BUSY); the
BASELINE beside it stands, and the controllers are told. -/
theorem witness_ShiftZoneJudged :
    ((zoned .ruleset .qualified).hears 0 = true ∧ (zoned .ruleset .qualified).occupied (ctlPos .a) = true ∧
      ((zoned .ruleset .qualified).lane 0).board = []) ∧
    rezoned (zoned .operator .qualified) =
      (some .accepted, [(1, .shift 3 60 90002), (6, .baseline 50)], [false], [.withdrawn 4 (.shift 3 0 90003) .replaced]) ∧
    rezoned (zoned .ruleset .qualified) =
      (some .accepted, [(1, .shift 3 60 90002), (6, .baseline 50)], [true], [.withdrawn 4 (.shift 3 0 90003) .replaced]) ∧
    rezoned (zoned .operator .armed) = (some .busy, [(4, .shift 3 0 90003), (6, .baseline 50)], [false], []) ∧
    (zoned .ruleset .qualified).settled ∧ (zoned .ruleset .qualified).recordsFit :=
  ⟨by decide +kernel, by decide +kernel, by decide +kernel, by decide +kernel, by unfold State.settled; decide +kernel,
    by unfold State.recordsFit changesFit idsFit; decide +kernel⟩
theorem witness_SettingsJudged : ready.settled ∧ ready.hears 2 = true := ⟨ready_settled, ready_hears.2.1⟩
theorem witness_RulesetStartJudged : ready.settled ∧ ready.hears 0 = true := ⟨ready_settled, ready_hears.1⟩
theorem witness_RulesetLoadJudged :
    (withLoader .loading 12 100 [1]).settled ∧ (withLoader .loading 12 100 [1]).hears 0 = true ∧
    (List.replicate 16 (7 : Byte)).length ≤ 30 := by unfold State.settled; decide +kernel
/-- The requests; a PENDING rehearsal with nothing else afoot, in range and out of it; an armed one beside a change that
arms; and one whose second comes. -/
theorem witness_RehearsalJudged :
    (ready.settled ∧ ready.hears 0 = true) ∧
    let due : State → State := withTime fun b => { b with frame := 999, due := .second }
    ([90000, 2 ^ 40 - 20].map fun n =>
      let s := due (withTime (fun b => { b with t := some n }) (rehearsing .pending 0))
      (decide (s.running = true ∧ s.time.due = .second ∧ s.time.pendingTime = none ∧ s.scale.clearPending = false ∧
        s.scale.groups = [] ∧ s.records = []), (after .secondBoundary s).rehearsal.phase)) =
      [(true, .armed), (true, .none)] ∧
    (due (rehearsing .pending 0)).still ∧ (due (rehearsing .pending 0)).occupied 2 = true ∧
    ((due (rehearsing .pending 0)).lane 2).board = [] ∧
    (let s := due (withRecords [plainRecord 7 (.shift 3 60 90005) (some 90005) .operator .qualified]
        (rehearsing .armed 90020));
      s.running = true ∧ s.recordsFit ∧ s.rehearsal.phase ≠ .none ∧ s.rehearsal.affected ≠ some (90000 + 1) ∧
      90005 ≤ 90000 + 1 + (after .secondBoundary s).value Config.armingLead ∧ s.scale.d ≠ none ∧
      s.scale.provisional = false ∧ s.scale.groups = [] ∧ (after .secondBoundary s).rehearsal.phase = .none) ∧
    (let s := due (rehearsing .called 90001);
      s.running = true ∧ s.time.t = some 90000 ∧ s.rehearsal.affected = some (90000 + 1) ∧
      (after .secondBoundary s).rehearsal.phase = .none) :=
  ⟨⟨ready_settled, ready_hears.1⟩, by decide +kernel, by unfold State.still; decide +kernel, by decide +kernel,
    by decide +kernel, by unfold State.recordsFit changesFit idsFit; decide +kernel, by decide +kernel⟩
/-- A cancellation with a pending ARMED of id 0: the notice is gone, and the lead holder is told. At a boundary: the requester
is told where no one holds the lead, at completion and when a real group arms: a leap, and a BASELINE. -/
theorem witness_RehearsalJudged_told :
    let asked : ArmedReport :=
      { id := 0, change := none, late := false, newValue := 0, instant := 0, affected := 90020, tag := 1, start := 0, stop := 0 }
    let told : List BoardEntry := [⟨0, .armed asked⟩]
    let due : State → State := withTime fun b => { b with frame := 999, due := .second, holder := none }
    let real (l : List Record) (a : Nat) : State :=
      due (withRecords l (withLane { Lane.initial with board := told } (rehearsing .armed a)))
    (let s := (withLane { Lane.initial with board := told } (rehearsing .armed 90020)).sync;
      (s.hears 0, s.holdsLead 0, (s.lane 0).board.length, decide (s.rehearsal.phase = .armed),
        ((after (.rehearsalCancel 0) s).lane 0).board.map BoardEntry.notice) =
        (true, true, 1, true, [.rehearsalResult 0 0 true])) ∧
    (let leap := plainRecord 7 (.leap .insert 2) (some 90005) .sources .qualified;
      let base := plainRecord 7 (.baseline 40) none .operator .qualified;
      ([real [leap] 90020, real [base] 90020, real [] 90001].map fun s =>
        let t := after .secondBoundary s
        (decide (s.time.holder = none ∧ s.rehearsal.requester = some .a ∧ s.rehearsal.phase ≠ .none ∧
          s.scale.inserting = none ∧ s.scale.groups = []), t.rehearsal.phase,
          (t.lane 0).board.filterMap fun e => match e.notice with
            | .armed a => some a.id
            | .rehearsalResult _ _ c => some (if c then 1000 else 1001)
            | _ => none)) =
        [(true, .none, [7, 1000]), (true, .none, [7, 1000]), (true, .none, [1001])]) ∧
    (real [plainRecord 7 (.leap .insert 2) (some 90005) .sources .qualified] 90020).recordsFit ∧
    (real [] 90020).still ∧ (real [] 90020).settingsInRange :=
  ⟨by decide +kernel, by decide +kernel, by unfold State.recordsFit changesFit idsFit; decide +kernel,
    by unfold State.still; decide +kernel, by unfold State.settingsInRange paramInRange; decide +kernel⟩
theorem witness_QueriesAnswered : armed.settled ∧ armed.hears 0 = true := armed_settled
/-- A record; a source; a zone with a record and one without; a transition; a rehearsal, and none. -/
theorem witness_QueryContents :
    (armed.records[0]? = some (leapRecord .armed) ∧ armed.records.length ≤ 19 ∧
      ((withSource (entry .listening 0)).source 0).state ≠ .free ∧
      (two.zoneRecord 3).isSome = true ∧ two.zoneRecord 4 = none ∧
      ({ ready with rules := rules } : State).rules.transitions[0]? = some ⟨3, 90003, 60, false⟩ ∧
      (rehearsing .armed 90020).rehearsal.phase ≠ .none ∧ ready.rehearsal.phase = .none ∧
      ready.rehearsal.result = none) ∧
    armed.fieldsFit ∧ (withSource (entry .listening 0)).fieldsFit ∧
    layoutNotice (.timeSlip 999) = some [0x5C, 2, 3, 0xE7] ∧
    layoutNotice (.sourceState 3 { entry .muted 0 with run := 15 } false) =
      some [0x59, 18, 3, 0, 0x4F, 0, 0, 0, 0, 0, 0, 0, 0, 0, 0, 0, 0, 0, 0, 0] ∧
    (let s := after .secondBoundary armed;
      (s.pos 2).held = some 0 ∧ s.scale.history.map (fun e => (e.gen.setWidth 8 : Byte)) = [0 + 1] ∧
      ((s.scale.g.setWidth 8 : Byte) - 0).toNat ≤ 128) ∧
    (ready.pos 1).held = none :=
  ⟨by decide +kernel, armed_fields, by unfold State.fieldsFit Record.fitsLayout; decide +kernel, by decide +kernel⟩
/-- The device at T `n` and D 37 with these entries and records. -/
def polled (n : Nat) (l : List Source) (records : List Record) : State :=
  let s := device (some n) (some 37)
  withRecords records { s with sources := .build 16 fun i => l.getD i.val .initial
                               sched := { s.sched with cursor := records.length } }

/-- A full scale class: two HEARD records of tally 2, two QUALIFIED leaps and a HELD BASELINE; BASELINEs with tallies 4, 3
and 2 come new. -/
def crowded : State :=
  polled 90000
    [voucher 2 .network 40 none, voucher 3 .network 41 none, voucher 0 .operator 50 none, voucher 4 .satellite 51 none,
      voucher 5 .network 52 none]
    [plainRecord 3 (.leap .insert 3) (some 259237) .sources .qualified,
      plainRecord 5 (.leap .insert 4) (some 345637) .sources .qualified,
      { plainRecord 1 (.baseline 40) none .sources .heard with created := none },
      plainRecord 2 (.baseline 41) none .sources .heard,
      plainRecord 4 (.baseline 42) none .sources .held]

/-- The first newcomer takes the place of id 1, whose creation is unknown, the second that of id 2, and the third finds none;
the first reaches the quorum against a HELD BASELINE that stands. -/
theorem witness_TallyOutcome :
    (crowded.recordsFit ∧ crowded.listFits) ∧
    (let N : List Change := [.baseline 50, .baseline 51, .baseline 52];
      let H := crowded.records.filter fun r => r.state == .heard;
      N.Nodup ∧ (∀ c ∈ N, crowded.isNewcomer c = true) ∧ (∀ c ∈ crowded.named, crowded.isNewcomer c = true → c ∈ N) ∧
      (N.Pairwise fun a b => crowded.placedFirst a b = true) ∧
      (H.Pairwise fun a b => crowded.yieldsFirst a b = true) ∧ H.map Record.id = [1, 2] ∧
      (∀ r ∈ crowded.records, r ∈ H ↔ r.isScale = true ∧ r.state = .heard ∧ crowded.fallsAway r = none) ∧
      N.map crowded.vouches = [4, 3, 2] ∧ H.map (fun r => crowded.vouches r.change) = [2, 2]) ∧
    (crowded.occupied (ctlPos .a) = true ∧ (crowded.lane 0).board = [] ∧
      crowded.tally.records.map (fun r => (r.change, r.state)) =
        [(.leap .insert 3, .qualified), (.leap .insert 4, .qualified), (.baseline 42, .contested),
          (.baseline 50, .contested), (.baseline 51, .heard)] ∧
      crowded.tally.sched.refused = some ⟨.baseline 52, 2⟩ ∧
      (crowded.tally.lane 0).board.map BoardEntry.notice =
        [.withdrawn 1 (.baseline 40) .displaced, .withdrawn 2 (.baseline 41) .displaced, .contest 4 (.baseline 42) 0 6,
          .contest 6 (.baseline 50) 4 4, .scheduleFull (.baseline 52) 2]) := by
  unfold State.recordsFit State.listFits changesFit idsFit; decide +kernel
/-- Two leaps opposed in one tally with eight items listed, one of them with the key of the second: it is listed afresh, and
the oldest item leaves the list for the first. -/
theorem witness_TallyOutcome_listed :
    let leap (id : Nat) (k : LeapKind) (a : Nat) : Record :=
      { plainRecord id (.leap k 1) (some a) .sources .contested with preContest := some .qualified }
    let s := polled 43237 ((List.range 7).map (fun i => voucher (if i < 4 then 4 else 5) .network (50 + i) none) ++
        [voucher 3 .network 37 (some ⟨.delete, 1, false⟩), voucher 6 .network 37 (some ⟨.insert, 1, false⟩),
          voucher 2 .satellite 37 none, voucher 3 .satellite 37 none])
      [leap 2 .delete 86436, leap 1 .insert 86437]
    let before := (List.range 7).map fun i => (⟨.baseline (50 + i), .request, none⟩ : Listed)
    let s : State := { s with sched := { s.sched with listed := before ++ [⟨.leap .delete 1, .request, none⟩] } }
    s.recordsFit ∧ s.listFits ∧ s.weighed.sched.listed = s.sched.listed ∧ s.tally.records = [] ∧
    s.tally.sched.listed =
      before.drop 1 ++ [⟨.leap .delete 1, .opposed, some 43237⟩, ⟨.leap .insert 1, .opposed, some 43237⟩] := by
  unfold State.recordsFit State.listFits changesFit idsFit; decide +kernel
/-- The same refused change again is not reported again. -/
theorem witness_TallyOutcome_again :
    let s : State := { crowded with sched := { crowded.sched with refused := some ⟨.baseline 52, 9⟩ } }
    (s.tally.sched.refused = some ⟨.baseline 52, 2⟩ ∧
      (s.tally.lane 0).board.map (fun e => e.notice.code) = [0x51, 0x51, 0x5A, 0x5A]) := by decide +kernel
/-- A lapse, a MET BASELINE, and a newcomer in a free place that an OPERATOR source qualifies; a listed change that no source
backs any more, and one that is still backed and so not placed. -/
theorem witness_TallyOutcome_lapse :
    let s := polled 90000 [voucher 0 .operator 38 none, voucher 2 .satellite 39 none]
      [plainRecord 1 (.baseline 40) none .sources .heard, plainRecord 2 (.baseline 37) none .sources .held]
    let s : State := { s with sched := { s.sched with listed :=
      [⟨.baseline 39, .request, none⟩, ⟨.baseline 60, .request, none⟩] } }
    (s.records.map s.fallsAway, s.isNewcomer (.baseline 38), s.isNewcomer (.baseline 39)) =
      ([some .lapsed, some .met], true, false) ∧
    (s.weighed.records.map fun r => r.id) = [3] ∧
    (s.tally.records.map fun r => (r.change, r.state), s.tally.sched.listed) =
      ([(.baseline 38, .qualified)], [⟨.baseline 39, .request, none⟩]) := by decide +kernel
/-- R59, R70: at H before the affected second two agreeing sources oppose a leap, one second earlier they do not. R68: a
CONTESTED BASELINE whose rival is gone goes back to HELD. R76: their agreement reaches the quorum. -/
theorem witness_TallyOutcome_opposed :
    [43236, 43237].map (fun n =>
      let s := polled n [voucher 2 .satellite 37 none, voucher 3 .network 37 none]
        [plainRecord 1 (.leap .insert 1) (some 86437) .sources .qualified,
          { plainRecord 2 (.baseline 40) none .operator .contested with preContest := some .held }]
      let t := ({ s with scale := { s.scale with provisional := true } } : State).tally
      (t.sched.agreement, t.scale.confirmPending, t.records.map fun r => (r.id, r.state), t.sched.listed)) =
      [(5, true, [(1, .qualified), (2, .held)], []),
        (5, true, [(2, .held)], [⟨.leap .insert 1, .opposed, some 43237⟩])] := by decide +kernel
/-- R60, R66, R73: sources on another offset make a BASELINE HELD, a marked one does not count; an INSERT and a DELETE for one
day, both at the quorum, contest one another; with D unknown each view counts for a BASELINE, which is QUALIFIED. ARMED
records stay. -/
theorem witness_TallyOutcome_quorum :
    (let s := polled 90000 [voucher 2 .satellite 38 none, voucher 3 .network 38 none, voucher 4 .satellite 38 none] [];
      let marked : State := { s with sched := { s.sched with marks := s.sched.marks.put 2 true } };
      [s, marked].map (fun s => s.tally.records.map fun r => (r.change, r.vouch, r.state)) =
        [[(.baseline 38, 8, .held)], [(.baseline 38, 5, .held)]]) ∧
    (let s := polled 90000 [voucher 0 .operator 37 (some ⟨.insert, 2, false⟩), voucher 1 .operator 37 (some ⟨.delete, 2, false⟩)] [];
      s.tally.records.map (fun r => (r.change, r.state, r.affected)) =
        [(.leap .delete 2, .contested, some 172836), (.leap .insert 2, .contested, some 172837)] ∧
      ({ s with scale := { s.scale with d := none } } : State).tally.records.map (fun r => (r.change, r.state)) =
        [(.baseline 37, .qualified)]) ∧
    armed.recordsFit ∧ armed.records.map (fun r => r.state) = [.armed] :=
  ⟨by decide +kernel, by decide +kernel, armed_fits, by decide +kernel⟩
/-- R28: lead 43200 in CENTRED placement, W 86400 in ENDING placement. The window of 38 to 86438 uncompressed; compressed by
an arming boundary at 86000; by the window of an ARMED leap before it, which ends at 86438; and collapsed. -/
theorem witness_NominalWindow :
    ready.value Config.smearWindow = 86400 ∧ ready.value Config.placement = 0 ∧ ready.windowBefore 86437 ≤ 86438 - 86400 ∧
    ready.windowOf .insert 86438 86437 38 37 = ⟨38, 86438, 86400, 37, 38⟩ ∧
    ready.windowOf .insert 86438 86437 86000 37 = ⟨86000, 86438, 438, 37, 38⟩ ∧
    ready.windowOf .delete 86438 86437 86438 37 = ⟨86438, 86438, 0, 37, 36⟩ ∧
    (armed.recordsOrdered ∧ (leapRecord .armed).leapBusy = true ∧ armed.windowBefore 172836 = 86438 ∧
      armed.windowBefore 86437 = 0 ∧
      armed.windowOf .delete 172837 172836 500 37 = ⟨86438, 172837, 86399, 37, 36⟩) := by
  unfold State.recordsOrdered; decide +kernel
theorem witness_SmearProgress :
    let w : Window := ⟨38, 86438, 86400, 37, 38⟩
    0 < w.length ∧ w.length ≤ 86400 ∧ w.progress 37 = 0 ∧ w.progress 43238 = 500000000 ∧ w.progress 86438 = 10 ^ 9 := by
  decide +kernel
theorem witness_RuleSetImageRoundTrip :
    let xs : List Transition := [⟨1, 0, -720, false⟩, ⟨1, 2 ^ 40 - 1, 840, false⟩, ⟨15, 5, 0, false⟩]
    xs.length ≤ 64 ∧
    (∀ x ∈ xs, x.skipped = false ∧ 1 ≤ x.zone ∧ x.zone ≤ 15 ∧ -720 ≤ x.offset ∧ x.offset ≤ 840 ∧ x.instant < 2 ^ 40) ∧
    xs.Pairwise fun x y => x.zone < y.zone ∨ x.zone = y.zone ∧ x.instant < y.instant := by decide +kernel
theorem witness_BusFields : (ready.occupied 0 = true ∧ (atFrame 979).time.frame < 980 ∧ ready.occupied 1 = false ∧
      980 ≤ (atFrame 980).time.frame ∧ ready.pins.powered = true ∧ ready.pins.rstn = true ∧
      (after .mainPowerLoss ready).pins.powered = false ∧ (after (.resetAssert 0) ready).pins.rstn = false) ∧
    ([0, 1, 2].map fun k =>
      (({ armed with roster := armed.roster.put 2 { card .none with ready := k } }.returnSegment 2).extractLsb' 92 4).toNat) =
      [2, 3, 2] ∧
    ((rehearsing .armed 90020).pos 2).state = .inStep ∧ (rehearsing .armed 90020).scale.groups = [] ∧
    ([(Role.lead, some Ctl.a), (.lead, some .b), (.standby, none)].map fun x =>
      ((withTime (fun b => { b with holder := x.2 })
        { ready with roster := ready.roster.put 0 (card x.1) }).returnSegment 0 |>.extractLsb' 90 2).toNat) = [2, 3, 1] := by
  decide +kernel

end Sys2Proof.Tests
end

namespace Sys2Proof.Machine

set_option Elab.async false

/-! ### Sorting -/

theorem insertBy_eq_orderedInsert {α : Type} (le : α → α → Bool) (x : α) (l : List α) :
    insertBy le x l = l.orderedInsert (fun a b => le a b = true) x := by
  induction l with
  | nil => rfl
  | cons y ys ih => simp only [insertBy, List.orderedInsert_cons, ih]

/-- `sortBy` is the library's insertion sort. -/
theorem sortBy_eq_insertionSort {α : Type} (le : α → α → Bool) (l : List α) :
    sortBy le l = l.insertionSort (fun a b => le a b = true) := by
  induction l with
  | nil => rfl
  | cons x xs ih =>
    rw [List.insertionSort_cons, ← ih, ← insertBy_eq_orderedInsert]
    rfl

theorem sortBy_perm {α : Type} (le : α → α → Bool) (l : List α) : (sortBy le l).Perm l := by
  rw [sortBy_eq_insertionSort]
  exact List.perm_insertionSort _ l

@[simp] theorem mem_sortBy {α : Type} (le : α → α → Bool) (l : List α) (x : α) : x ∈ sortBy le l ↔ x ∈ l :=
  (sortBy_perm le l).mem_iff

theorem sortBy_pairwise {α : Type} (le : α → α → Bool) (total : ∀ a b, le a b = true ∨ le b a = true)
    (trans : ∀ a b c, le a b = true → le b c = true → le a c = true) (l : List α) :
    (sortBy le l).Pairwise fun a b => le a b = true := by
  have : Std.Total fun a b => le a b = true := ⟨total⟩
  have : IsTrans α fun a b => le a b = true := ⟨trans⟩
  rw [sortBy_eq_insertionSort]
  exact List.pairwise_insertionSort _ l

/-- The head of a sorted list is its only least member. -/
theorem head_sortBy {α : Type} (le : α → α → Bool) (total : ∀ a b, le a b = true ∨ le b a = true)
    (trans : ∀ a b c, le a b = true → le b c = true → le a c = true) {l : List α} {x : α} (hx : x ∈ l)
    (least : ∀ y ∈ l, y ≠ x → le y x = false) : (sortBy le l).head? = some x := by
  have sorted := sortBy_pairwise le total trans l
  have mem := (mem_sortBy le l x).mpr hx
  cases h : sortBy le l with
  | nil => simp [h] at mem
  | cons y ys =>
    rw [h] at sorted mem
    have hy : y ∈ l := (mem_sortBy le l y).mp (by simp [h])
    by_contra hne
    have hyx : y ≠ x := fun e => hne (by simp [e])
    have hx' : x ∈ ys := (List.mem_cons.mp mem).resolve_left (Ne.symm hyx)
    have := List.rel_of_pairwise_cons sorted hx'
    simp [least y hy hyx] at this

/-! ### Schedule order (R56) -/

/-- R56: what schedule order compares: known affected seconds, in their order, before unknown ones, then class and zone or id. -/
theorem before_iff (a b : Record) : a.before b = true ↔
    (match a.affected, b.affected with
      | some x, some y => x < y ∨ x = y ∧ (a.orderKey.1 < b.orderKey.1 ∨ a.orderKey.1 = b.orderKey.1 ∧ a.orderKey.2 ≤ b.orderKey.2)
      | some _, none => True
      | none, some _ => False
      | none, none => a.orderKey.1 < b.orderKey.1 ∨ a.orderKey.1 = b.orderKey.1 ∧ a.orderKey.2 ≤ b.orderKey.2) := by
  unfold Record.before
  cases a.affected <;> cases b.affected <;> simp

theorem before_total (a b : Record) : a.before b = true ∨ b.before a = true := by
  simp only [before_iff]
  cases a.affected <;> cases b.affected <;> simp only [true_or, or_true] <;> omega

theorem before_trans (a b c : Record) (h : a.before b = true) (k : b.before c = true) : a.before c = true := by
  simp only [before_iff] at h k ⊢
  cases ha : a.affected <;> cases hb : b.affected <;> cases hc : c.affected <;> simp only [ha, hb, hc] at h k ⊢ <;> omega

/-- R56: records in schedule order. -/
def inOrder (rs : List Record) : Prop := rs.Pairwise fun a b => a.before b = true

theorem inOrder_sortBy (rs : List Record) : inOrder (sortBy Record.before rs) :=
  sortBy_pairwise _ before_total before_trans rs

/-! ### Quotas and ids of a list of records (R54, R55) -/

theorem sameKey_comm (a b : Change) : a.sameKey b = b.sameKey a := by
  cases a <;> cases b <;> simp [Change.sameKey, Bool.beq_comm, eq_comm]

theorem changesFit_perm {l m : List Change} (h : l.Perm m) (k : changesFit l) : changesFit m := by
  obtain ⟨room, keys, zones⟩ := k
  refine ⟨?_, ?_, fun c hc => zones c (h.mem_iff.mpr hc)⟩
  · rw [← (h.filter _).length_eq]; exact room
  · exact keys.perm h fun {a b} hab => by rw [sameKey_comm]; exact hab

theorem changesFit_sublist {l m : List Change} (h : l.Sublist m) (k : changesFit m) : changesFit l := by
  obtain ⟨room, keys, zones⟩ := k
  exact ⟨le_trans (h.filter _).length_le room, keys.sublist h, fun c hc => zones c (h.subset hc)⟩

theorem changesFit_cons {l : List Change} {c : Change} (h : changesFit l) (key : ∀ x ∈ l, c.sameKey x = false)
    (zone : c.zoneFits = true) (room : c.isShift = true ∨ (l.filter fun x => !x.isShift).length < Config.scaleRoom) :
    changesFit (c :: l) := by
  obtain ⟨h1, h2, h3⟩ := h
  refine ⟨?_, List.pairwise_cons.mpr ⟨key, h2⟩, List.forall_mem_cons.mpr ⟨zone, h3⟩⟩
  cases hs : c.isShift
  · have := room.resolve_left (by simp [hs])
    simp only [List.filter_cons, hs, Bool.not_false, if_true, List.length_cons]
    omega
  · simpa [List.filter_cons, hs] using h1

theorem idsFit_perm {l m : List Nat} (h : l.Perm m) (k : idsFit l) : idsFit m :=
  ⟨h.nodup_iff.mp k.1, fun i hi => k.2 i (h.mem_iff.mpr hi)⟩

theorem idsFit_sublist {l m : List Nat} (h : l.Sublist m) (k : idsFit m) : idsFit l :=
  ⟨k.1.sublist h, fun i hi => k.2 i (h.subset hi)⟩

/-- R54, R55: the quotas and the ids of records. -/
def quotasHold (rs : List Record) : Prop := changesFit (rs.map Record.change) ∧ idsFit (rs.map Record.id)

theorem State.recordsFit_iff (s : State) : s.recordsFit ↔ quotasHold s.records ∧
    changesFit (s.store.copy.records.map RetainedRecord.change) ∧ idsFit (s.store.copy.records.map RetainedRecord.id) := by
  simp only [State.recordsFit, quotasHold, and_assoc]

theorem quotasHold_perm {l m : List Record} (h : l.Perm m) (k : quotasHold l) : quotasHold m :=
  ⟨changesFit_perm (h.map _) k.1, idsFit_perm (h.map _) k.2⟩

theorem quotasHold_sortBy {rs : List Record} (h : quotasHold rs) : quotasHold (sortBy Record.before rs) :=
  quotasHold_perm (sortBy_perm _ rs).symm h

theorem quotasHold_sublist {l m : List Record} (h : l.Sublist m) (k : quotasHold m) : quotasHold l :=
  ⟨changesFit_sublist (h.map _) k.1, idsFit_sublist (h.map _) k.2⟩

theorem quotasHold_nil : quotasHold [] := by
  refine ⟨⟨Nat.zero_le _, List.Pairwise.nil, ?_⟩, List.nodup_nil, ?_⟩ <;> simp

/-- Records rewritten with their ids and changes kept have the quotas they had. -/
theorem quotasHold_map {rs : List Record} {f : Record → Record}
    (h : ∀ r ∈ rs, (f r).id = r.id ∧ (f r).change = r.change) (k : quotasHold rs) : quotasHold (rs.map f) := by
  have ids : (rs.map f).map Record.id = rs.map Record.id := by
    simpa using fun r hr => (h r hr).1
  have changes : (rs.map f).map Record.change = rs.map Record.change := by
    simpa using fun r hr => (h r hr).2
  unfold quotasHold
  rwa [ids, changes]

/-- R54: records with one id are one record. -/
theorem eq_of_id {rs : List Record} (h : quotasHold rs) {x y : Record} (hx : x ∈ rs) (hy : y ∈ rs)
    (e : x.id = y.id) : x = y := List.inj_on_of_nodup_map h.2.1 hx hy e

/-- The zone of a SHIFT, 0 for another change. -/
def Change.zone : Change → Nat
  | .shift z _ _ => z
  | _ => 0

/-- R55: five records of the scale class and one of each zone are twenty at most. -/
theorem changesFit_length {l : List Change} (h : changesFit l) : l.length ≤ 20 := by
  obtain ⟨room, keys, zones⟩ := h
  have shifts : ((l.filter Change.isShift).map Change.zone).length ≤ (List.range' 1 15).length := by
    apply List.Subperm.length_le
    apply List.subperm_of_subset
    · refine List.pairwise_map.mpr ((keys.filter _).imp_of_mem ?_)
      intro a b ha hb hab
      have ha' := (List.mem_filter.mp ha).2
      have hb' := (List.mem_filter.mp hb).2
      cases a <;> cases b <;> simp_all [Change.isShift, Change.sameKey, Change.zone]
    · intro z hz
      obtain ⟨c, hc, rfl⟩ := List.mem_map.mp hz
      obtain ⟨hc, hs⟩ := List.mem_filter.mp hc
      have hz := zones c hc
      cases c <;> simp_all [Change.isShift, Change.zoneFits, Change.zone]
      omega
  have split := List.length_eq_length_filter_add (l := l) Change.isShift
  simp only [List.length_map, List.length_range'] at shifts
  simp only [Config.scaleRoom] at room
  omega

/-! ### The next id (R54) -/

/-- A record takes an id in use only where every id that it came past is in use. -/
theorem freeId_mem {used : List Nat} : ∀ {fuel c : Nat}, freeId used fuel c ∈ used →
    ∀ k, k ≤ fuel → nextId^[k + 1] c ∈ used
  | 0, c, h, k, hk => by
    obtain rfl : k = 0 := by omega
    exact h
  | fuel + 1, c, h, k, hk => by
    unfold freeId at h
    split at h
    · next first =>
      cases k with
      | zero => simpa using first
      | succ k => exact freeId_mem h k (by omega)
    · next first => exact absurd h (by simpa using first)

/-- R54: the ids in the order they are tried. -/
theorem nextId_iterate (c k : Nat) : nextId^[k + 1] c = ((if c < 255 then c else 0) + k) % 255 + 1 := by
  induction k with
  | zero =>
    simp only [zero_add, Function.iterate_one, nextId]
    split <;> omega
  | succ k ih =>
    rw [Function.iterate_succ_apply', ih]
    generalize (if c < 255 then c else 0) = first
    unfold nextId
    split <;> omega

theorem freeId_range (used : List Nat) (fuel c : Nat) : 1 ≤ freeId used fuel c ∧ freeId used fuel c ≤ 255 := by
  have step (c : Nat) : 1 ≤ nextId c ∧ nextId c ≤ 255 := by unfold nextId; split <;> omega
  induction fuel generalizing c with
  | zero => exact step c
  | succ fuel ih =>
    unfold freeId
    split
    · exact ih _
    · exact step c

/-- R54: of 255 ids one is free while twenty at most are in use. -/
theorem freeId_not_mem {used : List Nat} (h : used.length ≤ 20) (c : Nat) : freeId used 255 c ∉ used := by
  intro hmem
  have all := freeId_mem hmem
  have many : ((List.range 21).map fun k => nextId^[k + 1] c).length ≤ used.length := by
    apply List.Subperm.length_le
    apply List.subperm_of_subset
    · refine List.Nodup.map_on ?_ List.nodup_range
      intro i hi j hj e
      simp only [nextId_iterate, List.mem_range] at *
      split at e <;> omega
    · intro i hi
      obtain ⟨k, hk, rfl⟩ := List.mem_map.mp hi
      exact all k (by have := List.mem_range.mp hk; omega)
  simp only [List.length_map, List.length_range] at many
  omega

theorem newId_fits {s : State} (h : quotasHold s.records) :
    s.newId ∉ s.records.map Record.id ∧ 1 ≤ s.newId ∧ s.newId ≤ 255 := by
  have few : (s.records.map Record.id).length ≤ 20 := by simpa using changesFit_length h.1
  exact ⟨freeId_not_mem few _, freeId_range _ _ _⟩

/-- R54, R55: a record under a free id, with a new key and room in its class. -/
theorem quotasHold_cons {rs : List Record} {r : Record} (h : quotasHold rs)
    (id : r.id ∉ rs.map Record.id ∧ 1 ≤ r.id ∧ r.id ≤ 255) (key : ∀ x ∈ rs, r.change.sameKey x.change = false)
    (zone : r.change.zoneFits = true) (room : r.change.isShift = true ∨ (rs.filter Record.isScale).length < Config.scaleRoom) :
    quotasHold (r :: rs) := by
  refine ⟨changesFit_cons h.1 (by simpa using key) zone (room.imp_right fun k => ?_),
    List.nodup_cons.mpr ⟨id.1, h.2.1⟩, List.forall_mem_cons.mpr ⟨id.2, h.2.2⟩⟩
  rw [List.filter_map, List.length_map]
  exact k

end Sys2Proof.Machine

namespace Sys2Proof.Machine

set_option Elab.async false

/-! ### Leaps reckoned on D (R19) -/

/-- R19: the record, where it is an unarmed leap, has the affected second that D gives it. -/
def Record.onOffset (d : Option Nat) (r : Record) : Prop :=
  ∀ x k e, d = some x → r.change = .leap k e → r.state ≠ .armed → r.state ≠ .settling →
    r.affected = some (leapAffected k e x)

theorem State.leapsReckoned_iff (s : State) : s.leapsReckoned ↔ ∀ r ∈ s.records, r.onOffset s.scale.d := by
  constructor <;>
  · intro h r hr d k e hd hc ha hs
    rw [h r hr d k e hd hc ha hs]
    cases k <;> rfl

/-- `r'` is `r` with other fields: the id and the change stand, and a leap that has left ARMED and SETTLING has its affected
second, and had left them before. -/
def Record.becomes (r r' : Record) : Prop :=
  r'.id = r.id ∧ r'.change = r.change ∧ (r.change.isLeap = true → r'.state ≠ .armed → r'.state ≠ .settling →
    r.state ≠ .armed ∧ r.state ≠ .settling ∧ r'.affected = r.affected)

theorem Record.becomes_self (r : Record) : r.becomes r := ⟨rfl, rfl, fun _ h k => ⟨h, k, rfl⟩⟩

theorem Record.onOffset_of_becomes {d : Option Nat} {r r' : Record} (h : r.becomes r') (k : r.onOffset d) :
    r'.onOffset d := by
  obtain ⟨-, change, state⟩ := h
  intro x kind e hd hc ha hs
  rw [change] at hc
  obtain ⟨ha', hs', affected⟩ := state (by rw [hc]; rfl) ha hs
  rw [affected]
  exact k x kind e hd hc ha' hs'

/-! ### What an operation keeps of the schedule and the scale -/

/-- R54 to R56, R19: the operation keeps schedule order, the ids and quotas, and the reckoning of unarmed leaps. -/
structure Keeps (s t : State) : Prop where
  ordered : inOrder s.records → inOrder t.records
  fit : s.recordsFit → t.recordsFit
  reckoned : s.recordsFit → s.leapsReckoned → t.leapsReckoned

/-- R80, R82, R83, R92, R60: the operation leaves D, G, INSERTING, the history and the trailing marks, and keeps schedule order;
where `P` holds it keeps the ids, the quotas and the reckoning of unarmed leaps too. -/
structure Steady (P : Prop) (s t : State) : Prop where
  d : t.scale.d = s.scale.d
  g : t.scale.g = s.scale.g
  inserting : t.scale.inserting = s.scale.inserting
  history : t.scale.history = s.scale.history
  marks : t.sched.marks = s.sched.marks
  ordered : inOrder s.records → inOrder t.records
  fit : P → s.recordsFit → t.recordsFit
  reckoned : P → s.recordsFit → s.leapsReckoned → t.leapsReckoned

section
variable {P : Prop} {s t u v : State}

theorem Keeps.refl (s : State) : Keeps s s := ⟨id, id, fun _ => id⟩

theorem Keeps.trans (h : Keeps s t) (k : Keeps t u) : Keeps s u :=
  ⟨k.ordered ∘ h.ordered, k.fit ∘ h.fit, fun f r => k.reckoned (h.fit f) (h.reckoned f r)⟩

theorem Keeps.ite {c : Prop} [Decidable c] (h : Keeps s t) (k : Keeps s u) : Keeps s (if c then t else u) := by
  split <;> assumption

theorem Keeps.foldl {α : Type} (f : State → α → State) (h : ∀ s x, Keeps s (f s x)) (l : List α) (s : State) :
    Keeps s (l.foldl f s) := by
  induction l generalizing s with
  | nil => exact Keeps.refl s
  | cons x xs ih => exact (h s x).trans (ih (f s x))

/-- Only other parts of the state are rewritten. -/
theorem Keeps.same (records : t.sched.records = s.sched.records := by rfl) (d : t.scale.d = s.scale.d := by rfl)
    (copy : t.store.copy = s.store.copy := by rfl) : Keeps s t := by
  refine ⟨?_, ?_, fun _ => ?_⟩
  · simp only [State.records, records]; exact id
  · simp only [State.recordsFit, State.records, records, copy]; exact id
  · simp only [State.leapsReckoned, State.records, records, d]; exact id

theorem Unchanged.keeps {but : List Block} (h : Unchanged but s t)
    (hb : Block.sched ∉ but ∧ Block.scale ∉ but ∧ Block.store ∉ but := by decide) : Keeps s t := by
  have sched : t.sched = s.sched := h .sched hb.1
  have scale : t.scale = s.scale := h .scale hb.2.1
  have store : t.store = s.store := h .store hb.2.2
  exact Keeps.same (by rw [sched]) (by rw [scale]) (by rw [store])

theorem Steady.refl (s : State) : Steady P s s := ⟨rfl, rfl, rfl, rfl, rfl, id, fun _ => id, fun _ _ => id⟩

theorem Steady.trans (h : Steady P s t) (k : Steady P t u) : Steady P s u where
  d := k.d.trans h.d
  g := k.g.trans h.g
  inserting := k.inserting.trans h.inserting
  history := k.history.trans h.history
  marks := k.marks.trans h.marks
  ordered := k.ordered ∘ h.ordered
  fit p := k.fit p ∘ h.fit p
  reckoned p f r := k.reckoned p (h.fit p f) (h.reckoned p f r)

theorem Steady.ite {c : Prop} [Decidable c] (h : Steady P s t) (k : Steady P s u) : Steady P s (if c then t else u) := by
  split <;> assumption

theorem Steady.andIte {c : Prop} [Decidable c] (h : Steady P s t) (k : Steady P t u) (l : Steady P t v) :
    Steady P s (if c then u else v) := Steady.ite (h.trans k) (h.trans l)

theorem Steady.foldl {α : Type} (f : State → α → State) (h : ∀ s x, Steady P s (f s x)) (l : List α) (s : State) :
    Steady P s (l.foldl f s) := by
  induction l generalizing s with
  | nil => exact Steady.refl s
  | cons x xs ih => exact (h s x).trans (ih (f s x))

/-- What is kept where the ids and quotas of the first state hold is kept in any case. -/
theorem Steady.close (h : Steady s.recordsFit s t) : Steady P s t :=
  { h with fit := fun _ f => h.fit f f, reckoned := fun _ f => h.reckoned f f }

theorem Steady.keeps (h : Steady s.recordsFit s t) : Keeps s t :=
  ⟨h.ordered, fun f => h.fit f f, fun f => h.reckoned f f⟩

/-- Only other parts of the state are rewritten. -/
theorem Steady.same (records : t.sched.records = s.sched.records := by rfl)
    (marks : t.sched.marks = s.sched.marks := by rfl) (d : t.scale.d = s.scale.d := by rfl)
    (g : t.scale.g = s.scale.g := by rfl) (inserting : t.scale.inserting = s.scale.inserting := by rfl)
    (history : t.scale.history = s.scale.history := by rfl) (copy : t.store.copy = s.store.copy := by rfl) :
    Steady P s t :=
  have k : Keeps s t := Keeps.same records d copy
  ⟨d, g, inserting, history, marks, k.ordered, fun _ => k.fit, fun _ => k.reckoned⟩

theorem Unchanged.steady {but : List Block} (h : Unchanged but s t)
    (hb : Block.sched ∉ but ∧ Block.scale ∉ but ∧ Block.store ∉ but := by decide) : Steady P s t := by
  have sched : t.sched = s.sched := h .sched hb.1
  have scale : t.scale = s.scale := h .scale hb.2.1
  have store : t.store = s.store := h .store hb.2.2
  exact Steady.same (by rw [sched]) (by rw [sched]) (by rw [scale]) (by rw [scale]) (by rw [scale]) (by rw [scale])
    (by rw [store])

/-! ### Rewriting the records -/

@[simp] theorem records_setRecords (rs : List Record) (s : State) :
    (s.setRecords rs).records = sortBy Record.before rs := rfl

theorem steady_setRecords {rs : List Record} (fit : P → quotasHold s.records → quotasHold rs)
    (reckoned : P → quotasHold s.records → (∀ r ∈ s.records, r.onOffset s.scale.d) → ∀ r ∈ rs, r.onOffset s.scale.d) :
    Steady P s (s.setRecords rs) := by
  refine ⟨rfl, rfl, rfl, rfl, rfl, fun _ => inOrder_sortBy rs, ?_, ?_⟩
  · intro p f
    rw [State.recordsFit_iff] at f ⊢
    exact ⟨quotasHold_sortBy (fit p f.1), f.2⟩
  · intro p f k
    rw [State.leapsReckoned_iff] at k ⊢
    intro r hr
    exact reckoned p ((State.recordsFit_iff s).mp f).1 k r ((mem_sortBy _ _ _).mp hr)

theorem steady_filterRecords (f : Record → Bool) (s : State) : Steady P s (s.setRecords (s.records.filter f)) :=
  steady_setRecords (fun _ => quotasHold_sublist List.filter_sublist) fun _ _ k r hr => k r (List.mem_of_mem_filter hr)

theorem steady_mapRecords {f : Record → Record}
    (h : P → quotasHold s.records → ∀ r ∈ s.records, r.becomes (f r)) :
    Steady P s (s.setRecords (s.records.map f)) := by
  apply steady_setRecords
  · intro p q
    exact quotasHold_map (fun r hr => ⟨(h p q r hr).1, (h p q r hr).2.1⟩) q
  · intro p q k r' hr'
    obtain ⟨r, hr, rfl⟩ := List.mem_map.mp hr'
    exact Record.onOffset_of_becomes (h p q r hr) (k r hr)

theorem steady_updateRecord {id : Nat} {f : Record → Record}
    (h : P → quotasHold s.records → ∀ r ∈ s.records, r.id = id → r.becomes (f r)) : Steady P s (s.updateRecord id f) := by
  refine steady_mapRecords fun p q r hr => ?_
  split
  · next e => exact h p q r hr (by simpa using e)
  · exact r.becomes_self

/-- R54, R55: a record joins under a new id. -/
theorem steady_place {c : Change} {a : Option Nat} {o : RecordOrigin} {st : RecordState} {x : Option (Nat × Nat)}
    (key : P → quotasHold s.records → ∀ r ∈ s.records, c.sameKey r.change = false) (zone : c.zoneFits = true)
    (room : P → quotasHold s.records → c.isShift = true ∨ s.scaleCount < Config.scaleRoom)
    (affected : c.isLeap = true → a = s.affectedOf c) : Steady P s (s.place c a o st x) := by
  unfold State.place
  refine (steady_setRecords (rs := _ :: s.records) ?_ ?_).trans Steady.same
  · exact fun p q => quotasHold_cons q (newId_fits q) (key p q) zone (room p q)
  · intro _ _ k r hr
    rcases List.mem_cons.mp hr with rfl | hr
    · intro d kind e hd hc _ _
      obtain rfl : c = .leap kind e := hc
      show a = _
      rw [affected rfl, State.affectedOf, hd]
      rfl
    · exact k r hr

end

end Sys2Proof.Machine

namespace Sys2Proof.Machine

set_option Elab.async false

variable {P : Prop} {s t : State}

/-! ### Withdrawal (R71) -/

theorem steady_withdraw (r : Record) (why : Reason) (s : State) : Steady P s (s.withdraw r why) := by
  unfold State.withdraw
  dsimp only
  refine Steady.andIte ?_ (frame_notifyAll _ _).steady (frame_notifyControllers _ _).steady
  refine Steady.andIte ?_ Steady.same (Steady.refl _)
  exact Steady.andIte (steady_filterRecords _ s) Steady.same (Steady.refl _)

/-- R71: a withdrawal takes the records of its id out of the schedule. -/
@[simp] theorem records_withdraw (r : Record) (why : Reason) (s : State) :
    (s.withdraw r why).records = sortBy Record.before (s.records.filter fun x => !(x.id == r.id)) := by
  unfold State.withdraw
  dsimp only
  split <;> split <;> rfl

/-! ### The tally (R57 to R70) -/

theorem steady_tallyCounts (vs : List Voter) (s : State) : Steady P s (s.tallyCounts vs) :=
  (steady_mapRecords (f := fun r => { r with vouch := vouchTally vs s.scale.d r.change, oppose := s.opposition vs r })
    fun _ _ _ _ => ⟨rfl, rfl, fun _ h k => ⟨h, k, rfl⟩⟩).trans Steady.same

theorem steady_tallyAgreement (s : State) : Steady P s s.tallyAgreement := Steady.ite Steady.same (Steady.refl s)

theorem steady_tallyLapse (s : State) : Steady P s s.tallyLapse :=
  Steady.foldl _ (fun s r => Steady.ite (steady_withdraw r .met s)
    (Steady.ite (steady_withdraw r .lapsed s) (Steady.refl s))) _ s

theorem steady_tallyPurge (vs : List Voter) (s : State) : Steady P s (s.tallyPurge vs) := Steady.same

/-- R62: the change is of the scale class, and no record has it. -/
def State.lacks (s : State) (c : Change) : Prop :=
  c.isShift = false ∧ ∀ r ∈ s.records, c.sameKey r.change = false

theorem mem_names {d : Option Nat} {v : Voter} {c : Change} (h : c ∈ v.names d) : c.isShift = false := by
  unfold Voter.names at h
  rcases List.mem_append.mp h with h | h
  · split at h
    · rw [List.mem_singleton.mp h]; rfl
    · cases h
  · split at h
    · cases h
    · rw [List.mem_singleton.mp h]; rfl

theorem dedupBy_sublist {α : Type} (same : α → α → Bool) (l : List α) : (dedupBy same l).Sublist l := by
  induction l with
  | nil => exact List.Sublist.slnil
  | cons x xs ih => exact (List.filter_sublist.trans ih).cons_cons x

theorem dedupBy_pairwise {α : Type} (same : α → α → Bool) (l : List α) :
    (dedupBy same l).Pairwise fun a b => same a b = false := by
  induction l with
  | nil => exact List.Pairwise.nil
  | cons x xs ih =>
    refine List.pairwise_cons.mpr ⟨fun y hy => ?_, ih.sublist List.filter_sublist⟩
    simpa using (List.mem_filter.mp hy).2

/-- R62: the newcomers have no record, and no two of them one kind and key. -/
theorem newcomers_lack (vs : List Voter) (s : State) : (∀ n ∈ s.newcomers vs, s.lacks n.change) ∧
    (s.newcomers vs).Pairwise fun a b => a.change.sameKey b.change = false := by
  unfold State.newcomers
  constructor
  · intro n hn
    obtain ⟨c, hc, rfl⟩ := List.mem_map.mp ((mem_sortBy _ _ _).mp hn)
    obtain ⟨hc, fresh⟩ := List.mem_filter.mp hc
    obtain ⟨v, -, hv⟩ := List.mem_flatMap.mp ((dedupBy_sublist _ _).subset hc)
    refine ⟨mem_names hv, fun r hr => ?_⟩
    simp only [Bool.and_eq_true, Bool.not_eq_true', List.any_eq_false] at fresh
    rw [sameKey_comm]
    simpa using fresh.1 r hr
  · refine List.Pairwise.perm ?_ (sortBy_perm _ _).symm fun {a b} h => by rw [sameKey_comm]; exact h
    exact List.pairwise_map.mpr ((dedupBy_pairwise _ _).sublist List.filter_sublist)

/-- R62: a newcomer placed in its state and with its tallies. -/
theorem steady_placeNewcomer {vs : List Voter} {n : Refused} (lacks : P → s.lacks n.change)
    (scale : n.change.isShift = false) (room : P → s.scaleCount < Config.scaleRoom) :
    Steady P s (s.placeNewcomer vs n) := by
  have zone : n.change.zoneFits = true := by cases h : n.change <;> simp_all [Change.isShift, Change.zoneFits]
  exact (steady_place (fun p _ => (lacks p).2) zone (fun p _ => .inr (room p)) fun _ => rfl).trans
    (steady_updateRecord fun _ _ _ _ _ => ⟨rfl, rfl, fun _ h k => ⟨h, k, rfl⟩⟩)

theorem mem_updateRecord {id : Nat} {f : Record → Record} {r : Record} :
    r ∈ (s.updateRecord id f).records ↔ ∃ x ∈ s.records, r = if x.id = id then f x else x := by
  rw [State.updateRecord, records_setRecords, mem_sortBy, List.mem_map]
  simp only [beq_iff_eq, eq_comm (a := r)]

/-- A newcomer's record is the only new one. -/
theorem lacks_placeNewcomer {vs : List Voter} {n : Refused} {c : Change} (h : s.lacks c)
    (k : c.sameKey n.change = false) : (s.placeNewcomer vs n).lacks c := by
  refine ⟨h.1, fun r hr => ?_⟩
  obtain ⟨x, hx, rfl⟩ := mem_updateRecord.mp hr
  have same : c.sameKey x.change = false := by
    rcases List.mem_cons.mp ((mem_sortBy _ _ _).mp hx) with rfl | hx
    · exact k
    · exact h.2 x hx
  split <;> exact same

theorem lacks_withdraw {c : Change} (r : Record) (why : Reason) (h : s.lacks c) : (s.withdraw r why).lacks c := by
  refine ⟨h.1, fun x hx => h.2 x ?_⟩
  rw [records_withdraw] at hx
  exact List.mem_of_mem_filter ((mem_sortBy _ _ _).mp hx)

theorem mem_of_yielding {f : Record → Bool} {r : Record} (h : s.yielding f = some r) :
    r ∈ s.records ∧ r.isScale = true ∧ r.state = .heard ∧ f r = true := by
  have mem := List.mem_filter.mp ((mem_sortBy _ _ _).mp (List.mem_of_head? h))
  obtain ⟨hr, hf⟩ := mem
  simp only [Bool.and_eq_true, beq_iff_eq] at hf
  exact ⟨hr, hf.1.1, hf.1.2, hf.2⟩

/-- R55: the withdrawal of a record of the scale class makes room. -/
theorem scaleCount_withdraw {r : Record} (why : Reason) (hr : r ∈ s.records) (scale : r.isScale = true) :
    (s.withdraw r why).scaleCount < s.scaleCount := by
  unfold State.scaleCount
  rw [records_withdraw, ((sortBy_perm _ _).filter _).length_eq, List.filter_comm]
  refine List.length_filter_lt_length_iff_exists.mpr ⟨r, List.mem_filter.mpr ⟨hr, scale⟩, by simp⟩

theorem scaleCount_le (h : quotasHold s.records) : s.scaleCount ≤ Config.scaleRoom := by
  have room := h.1.1
  rw [List.filter_map, List.length_map] at room
  exact room

theorem steady_tryNewcomer {vs : List Voter} {n : Refused} (h : s.tryNewcomer vs n = some t)
    (scale : n.change.isShift = false) (lacks : P → s.recordsFit ∧ s.lacks n.change) : Steady P s t := by
  unfold State.tryNewcomer at h
  split at h
  · next room => cases h; exact steady_placeNewcomer (fun p => (lacks p).2) scale fun _ => room
  · split at h
    · next r hr =>
      cases h
      obtain ⟨mem, isScale, -⟩ := mem_of_yielding hr
      refine (steady_withdraw r .displaced s).trans (steady_placeNewcomer (fun p => ?_) scale fun p => ?_)
      · exact lacks_withdraw r _ (lacks p).2
      · exact lt_of_lt_of_le (scaleCount_withdraw _ mem isScale)
          (scaleCount_le ((State.recordsFit_iff s).mp (lacks p).1).1)
    · cases h

theorem lacks_tryNewcomer {vs : List Voter} {n : Refused} {c : Change} (h : s.tryNewcomer vs n = some t)
    (lacks : s.lacks c) (k : c.sameKey n.change = false) : t.lacks c := by
  unfold State.tryNewcomer at h
  split at h
  · cases h; exact lacks_placeNewcomer lacks k
  · split at h
    · cases h; exact lacks_placeNewcomer (lacks_withdraw _ _ lacks) k
    · cases h

theorem steady_placeAll {vs : List Voter} {ns : List Refused} {s : State} {failed : Option Refused}
    (scale : ∀ n ∈ ns, n.change.isShift = false) (keys : ns.Pairwise fun a b => a.change.sameKey b.change = false)
    (lacks : P → s.recordsFit ∧ ∀ n ∈ ns, s.lacks n.change) : Steady P s (placeAll vs ns (s, failed)).1 := by
  induction ns generalizing s failed with
  | nil => exact Steady.refl s
  | cons n ns ih =>
    obtain ⟨first, keys⟩ := List.pairwise_cons.mp keys
    obtain ⟨-, scales⟩ := List.forall_mem_cons.mp scale
    unfold placeAll
    split
    · next t ht =>
      have step : Steady P s t := steady_tryNewcomer ht (scale n (List.mem_cons_self ..))
        fun p => ⟨(lacks p).1, (lacks p).2 n (List.mem_cons_self ..)⟩
      refine step.trans (ih scales keys fun p => ⟨step.fit p (lacks p).1, fun m hm => ?_⟩)
      refine lacks_tryNewcomer ht ((lacks p).2 m (List.mem_cons_of_mem _ hm)) ?_
      rw [sameKey_comm]
      exact first m hm
    · exact ih scales keys fun p => ⟨(lacks p).1, fun m hm => (lacks p).2 m (List.mem_cons_of_mem _ hm)⟩

theorem steady_setRefused (held : Bool) (failed : Option Refused) (s : State) : Steady P s (s.setRefused held failed) := by
  unfold State.setRefused
  split
  · exact Steady.ite (Steady.refl s) Steady.same
  · exact Steady.ite Steady.same (Steady.trans Steady.same (frame_notifyControllers _ _).steady)

theorem steady_tallyNewcomers (vs : List Voter) (s : State) : Steady P s (s.tallyNewcomers vs) := by
  obtain ⟨lacks, keys⟩ := newcomers_lack vs s
  unfold State.tallyNewcomers
  exact Steady.close ((steady_placeAll (fun n hn => (lacks n hn).1) keys fun p => ⟨p, lacks⟩).trans
    (steady_setRefused _ _ _))

theorem mem_of_findRecord {id : Nat} {r : Record} (h : s.findRecord id = some r) : r ∈ s.records ∧ r.id = id :=
  ⟨List.mem_of_find?_eq_some h, by simpa using List.find?_some h⟩

theorem becomes_contest (r : Record) : r.becomes r.contest := by
  unfold Record.contest
  split
  · next hs _ => exact ⟨rfl, rfl, fun _ _ _ => by simp [hs]⟩
  · next hs _ => exact ⟨rfl, rfl, fun _ _ _ => by simp [hs]⟩
  · next hs => exact ⟨rfl, rfl, fun _ _ _ => by simp [hs]⟩
  · exact r.becomes_self

theorem steady_judge (vs : List Voter) (id : Nat) (s : State) : Steady P s (s.judge vs id) := by
  unfold State.judge
  split
  · exact Steady.refl s
  · next r hr =>
    obtain ⟨mem, hid⟩ := mem_of_findRecord hr
    split
    · next judged =>
      have heard : r.state = .heard := by simp at judged; exact judged.1
      refine Steady.ite ?_ ?_
      · refine steady_updateRecord fun _ q x hx hxid => ⟨rfl, rfl, fun _ _ _ => ?_⟩
        obtain rfl := eq_of_id q hx mem (hxid.trans hid.symm)
        simp [heard]
      · refine steady_mapRecords fun _ _ x _ => ?_
        split
        · exact becomes_contest x
        · exact x.becomes_self
    · exact Steady.refl s

theorem steady_tallyQualify (vs : List Voter) (s : State) : Steady P s (s.tallyQualify vs) :=
  (Steady.foldl _ (fun s id => steady_judge vs id s) _ s).trans
    (Steady.foldl _ (fun s r => (frame_noteContest r s).steady) _ _)

theorem steady_tallyOppose (s : State) : Steady P s s.tallyOppose :=
  Steady.foldl _ (fun s r => Steady.ite (steady_withdraw r .opposed s) (Steady.refl s)) _ s

theorem steady_tallyRelease (vs : List Voter) (s : State) : Steady P s (s.tallyRelease vs) := by
  unfold State.tallyRelease
  refine (steady_mapRecords fun _ q r hr => ?_).trans (Steady.foldl _ (fun s id => steady_judge vs id s) _ _)
  split
  · next free =>
    simp only [List.contains_eq_mem, List.mem_map, List.mem_filter, decide_eq_true_eq, Bool.and_eq_true,
      beq_iff_eq] at free
    obtain ⟨x, ⟨hx, contested, -⟩, e⟩ := free
    obtain rfl := eq_of_id q hx hr e
    exact ⟨rfl, rfl, fun _ _ _ => by simp [contested]⟩
  · exact r.becomes_self

theorem steady_tally (s : State) : Steady P s s.tally := by
  unfold State.tally
  dsimp only
  refine Steady.trans ?_ (steady_tallyRelease _ _)
  refine Steady.trans ?_ (steady_tallyOppose _)
  refine Steady.trans ?_ (steady_tallyQualify _ _)
  refine Steady.trans ?_ (steady_tallyNewcomers _ _)
  refine Steady.trans ?_ (steady_tallyPurge _ _)
  refine Steady.trans ?_ (steady_tallyLapse _)
  exact (steady_tallyCounts _ s).trans (steady_tallyAgreement _)

end Sys2Proof.Machine

namespace Sys2Proof.Machine

set_option Elab.async false

variable {P : Prop} {s t : State}

/-! ### The Source Table -/

theorem keeps_putSource (i : Fin 16) (e : Source) (s : State) : Keeps s (s.putSource i e) := by
  unfold State.putSource
  dsimp only
  have h : Keeps s (if (s.source i).effective s.time.t = e.effective s.time.t && (s.source i).key = e.key
      then s.setSource i e else (s.setSource i e).unmark i) := Keeps.ite Keeps.same Keeps.same
  exact Keeps.ite (h.trans (frame_noteSource i _).keeps) h

theorem keeps_prompt (i : Fin 16) (e : Source) (s : State) : Keeps s (s.prompt i e) :=
  Keeps.ite ((keeps_putSource i e s).trans (steady_tally _).keeps) (keeps_putSource i e s)

theorem keeps_departSources (p : Pos) (s : State) : Keeps s (s.departSources p) := by
  refine Keeps.foldl _ (fun s i => ?_) _ s
  dsimp only
  split
  · exact Keeps.ite (keeps_putSource _ _ s) (Keeps.refl s)
  · exact Keeps.refl s

theorem keeps_boundarySource (old : Option Nat) (rekey : Bool) (i : Fin 16) (s : State) :
    Keeps s (s.boundarySource old rekey i) := by
  unfold State.boundarySource
  dsimp only
  refine Keeps.ite (Keeps.refl s) ?_
  have h : Keeps s (if ((s.source i).spent old != (s.source i).spent s.time.t) = true then s.unmark i else s) :=
    Keeps.ite Keeps.same (Keeps.refl s)
  exact Keeps.ite ((h.trans (keeps_putSource _ _ _)).trans (frame_noteSource i _).keeps)
    (h.trans (keeps_putSource _ _ _))

theorem keeps_boundarySources (old : Option Nat) (rekey : Bool) (s : State) : Keeps s (s.boundarySources old rekey) :=
  Keeps.foldl _ (fun s i => keeps_boundarySource old rekey i s) _ s

theorem keeps_freeSources (s : State) : Keeps s s.freeSources :=
  Keeps.foldl _ (fun s i => Keeps.ite (Keeps.refl s) (keeps_putSource i _ s)) _ s

/-! ### D takes a value (R19, R77) -/

theorem becomes_reckon_fields (d : Nat) (r : Record) : (r.reckon d).id = r.id ∧ (r.reckon d).change = r.change := by
  unfold Record.reckon
  split
  · split <;> exact ⟨rfl, rfl⟩
  · exact ⟨rfl, rfl⟩

/-- R19: every unarmed leap is reckoned on the new D, whatever it was reckoned on. -/
theorem onOffset_reckon (d : Nat) (r : Record) : (r.reckon d).onOffset (some d) := by
  rintro x k e hd hc ha hs
  cases hd
  rw [(becomes_reckon_fields d r).2] at hc
  unfold Record.reckon at ha hs ⊢
  simp only [hc] at ha hs ⊢
  split
  · next busy => rw [if_pos busy] at ha hs; exact absurd busy (by simp [ha, hs])
  · rfl

/-- The steps of `setD` before the records are reckoned. -/
theorem records_setD (d : Nat) (s : State) :
    (s.setD d).records = sortBy Record.before (s.records.map (Record.reckon d)) := by
  unfold State.setD
  cases s.scale.d with
  | none => rfl
  | some old => dsimp only; split <;> rfl

theorem scale_setD (d : Nat) (s : State) : (s.setD d).scale = { s.scale with d := some d } := by
  unfold State.setD
  cases h : s.scale.d with
  | none => rfl
  | some old => dsimp only; split <;> rfl

theorem leapsReckoned_setD (d : Nat) (s : State) : (s.setD d).leapsReckoned := by
  rw [State.leapsReckoned_iff, records_setD, scale_setD]
  intro r hr
  obtain ⟨x, -, rfl⟩ := List.mem_map.mp ((mem_sortBy _ _ _).mp hr)
  exact onOffset_reckon d x

theorem keeps_setD (d : Nat) (s : State) : Keeps s (s.setD d) := by
  refine ⟨fun _ => ?_, fun f => ?_, fun _ _ => leapsReckoned_setD d s⟩
  · rw [records_setD]; exact inOrder_sortBy _
  · have store : (s.setD d).store = s.store := frame_setD d s .store (by decide)
    rw [State.recordsFit_iff] at f ⊢
    rw [records_setD, store]
    exact ⟨quotasHold_sortBy (quotasHold_map (fun r _ => becomes_reckon_fields d r) f.1), f.2⟩

/-! ### The Change-over Controller -/

/-- R96: nothing is left of the schedule. -/
theorem keeps_clearAll (s : State) : Keeps s s.clearAll := by
  unfold State.clearAll
  dsimp only
  refine Keeps.trans ?_ (frame_notifyAll _ _).keeps
  refine Keeps.trans ?_ (frame_clearBoards _ _).keeps
  refine Keeps.trans ?_ (keeps_freeSources _)
  refine (frame_cancelRehearsal s).keeps.trans ?_
  refine ⟨fun _ => List.Pairwise.nil, fun f => ?_, fun _ _ r hr => by cases hr⟩
  rw [State.recordsFit_iff] at f ⊢
  exact ⟨quotasHold_nil, f.2⟩

theorem keeps_boundaryClear (s : State) : Keeps s s.boundaryClear := Keeps.ite (keeps_clearAll s) (Keeps.refl s)

theorem keeps_boundaryInserted (s : State) : Keeps s s.boundaryInserted := by
  unfold State.boundaryInserted
  split
  · exact Keeps.refl s
  · dsimp only
    split
    · exact Keeps.trans Keeps.same (keeps_setD _ _)
    · exact Keeps.same

theorem steady_boundaryProvisional (s : State) : Steady P s s.boundaryProvisional :=
  Steady.ite Steady.same (Steady.refl s)

theorem steady_boundarySettling (s : State) : Steady P s s.boundarySettling := by
  unfold State.boundarySettling
  split
  · exact steady_filterRecords _ s
  · exact Steady.refl s

theorem keeps_applyRecord (n : Nat) (r : Record) (s : State) : Keeps s (s.applyRecord n r) := by
  unfold State.applyRecord
  dsimp only
  split
  · split
    · refine Keeps.ite ?_ (steady_withdraw r .range s).keeps
      split
      · exact Keeps.same
      · exact Keeps.trans Keeps.same (keeps_setD _ _)
    · exact (steady_withdraw r .range s).keeps
  · exact Keeps.trans Keeps.same (keeps_setD _ _)
  · split <;> exact Keeps.same

theorem steady_retire (g : Group) (s : State) : Steady P s (s.retire g) := by
  unfold State.retire
  refine (steady_setRecords (P := P) (s := s) ?_ ?_).trans Steady.same
  · refine fun _ q => quotasHold_map (fun r _ => ?_) (quotasHold_sublist List.filter_sublist q)
    split <;> exact ⟨rfl, rfl⟩
  · intro _ _ k r' hr'
    obtain ⟨r, hr, rfl⟩ := List.mem_map.mp hr'
    refine Record.onOffset_of_becomes (r := r) ?_ (k r (List.mem_of_mem_filter hr))
    split
    · exact ⟨rfl, rfl, fun _ _ h => absurd rfl h⟩
    · exact r.becomes_self

theorem keeps_applyGroup (n : Nat) (g : Group) (s : State) : Keeps s (s.applyGroup n g) := by
  unfold State.applyGroup
  dsimp only
  have h : Keeps s (((s.members g.tag).foldl (fun a r => a.applyRecord n r) s).retire g) :=
    (Keeps.foldl _ (fun s r => keeps_applyRecord n r s) _ s).trans (steady_retire g _).keeps
  exact Keeps.ite h (h.trans (frame_notifyAll _ _).keeps)

theorem keeps_boundaryApply (retime : Bool) (s : State) : Keeps s (s.boundaryApply retime) := by
  unfold State.boundaryApply
  split
  · dsimp only
    refine Keeps.trans ?_ (frame_completeRehearsal _ _).keeps
    split
    · exact keeps_applyGroup _ _ s
    · exact Keeps.refl s
  · exact Keeps.refl s

theorem steady_missedPass (n : Nat) (retime : Bool) (s : State) : Steady P s (s.missedPass n retime) := by
  unfold State.missedPass
  dsimp only
  exact ((steady_filterRecords _ s).trans Steady.same).trans (Steady.foldl _ (fun s r => (frame_notifyAll _ s).steady) _ _)

/-! ### Arming: the records armed are the ones that were judged (R85, R86) -/

/-- A record of the schedule with the id of `r` has the change of `r`. -/
def State.knows (s : State) (r : Record) : Prop := ∀ x ∈ s.records, x.id = r.id → x.change = r.change

/-- Every record of `t` has the id and the change of one of `s`. -/
def State.descends (s t : State) : Prop := ∀ y ∈ t.records, ∃ x ∈ s.records, y.id = x.id ∧ y.change = x.change

theorem knows_of_descends {r : Record} (h : s.descends t) (k : s.knows r) : t.knows r := by
  intro y hy e
  obtain ⟨x, hx, id, change⟩ := h y hy
  rw [change]
  exact k x hx (id ▸ e)

theorem knows_of_mem {r : Record} (q : quotasHold s.records) (h : r ∈ s.records) : s.knows r :=
  fun _ hx e => congrArg Record.change (eq_of_id q hx h e)

theorem descends_withdraw (r : Record) (why : Reason) (s : State) : s.descends (s.withdraw r why) := by
  intro y hy
  rw [records_withdraw] at hy
  exact ⟨y, List.mem_of_mem_filter ((mem_sortBy _ _ _).mp hy), rfl, rfl⟩

theorem descends_foldl {α : Type} (f : State → α → State) (h : ∀ (s : State) x, s.descends (f s x)) (l : List α) (s : State) :
    s.descends (l.foldl f s) := by
  induction l generalizing s with
  | nil => exact fun y hy => ⟨y, hy, rfl, rfl⟩
  | cons x xs ih =>
    intro y hy
    obtain ⟨z, hz, id, change⟩ := ih (f s x) y hy
    obtain ⟨w, hw, id', change'⟩ := h s x z hz
    exact ⟨w, hw, id.trans id', change.trans change'⟩

/-- R87: a record is armed: its id and change stand. -/
theorem armRecord_effect {b a tag : Nat} {r : Record} (s : State) :
    (s.knows r → s.descends (s.armRecord b a tag r)) ∧ ((P → s.knows r) → Steady P s (s.armRecord b a tag r)) := by
  unfold State.armRecord
  dsimp only
  constructor
  · intro knows y hy
    obtain ⟨x, hx, rfl⟩ := mem_updateRecord.mp hy
    refine ⟨x, hx, ?_⟩
    split
    · next e => exact ⟨e.symm, (knows x hx e).symm⟩
    · exact ⟨rfl, rfl⟩
  · intro knows
    refine (steady_updateRecord fun p _ x hx e => ?_).trans (frame_notifyAll _ _).steady
    exact ⟨e.symm, (knows p x hx e).symm, fun _ h => absurd rfl h⟩

theorem records_cancelRehearsal (s : State) : s.cancelRehearsal.records = s.records :=
  congrArg Schedule.records (frame_cancelRehearsal s .sched (by decide))

/-- R86: a record joins its group or forms one. -/
theorem armInto_effect {b : Nat} {r : Record} (s : State) :
    (s.knows r → s.descends (s.armInto b r)) ∧ ((P → s.knows r) → Steady P s (s.armInto b r)) := by
  unfold State.armInto
  dsimp only
  split
  · exact armRecord_effect s
  · generalize hu : (if s.rehearsal.isArmed = true then s.cancelRehearsal else s) = u
    have records : u.records = s.records := by
      rw [← hu]; split
      · exact records_cancelRehearsal s
      · rfl
    have steady : Steady P s u := hu ▸ Steady.ite (frame_cancelRehearsal s).steady (Steady.refl s)
    split
    · exact ⟨fun _ y hy => ⟨y, records ▸ hy, rfl, rfl⟩, fun _ => steady⟩
    · next k _ =>
      generalize hv : ({ u with scale := { u.scale with groups := u.scale.groups ++ [Group.mk _ k none] } } : State) = v
      have records' : v.records = s.records := by rw [← hv, ← records]; rfl
      have steady' : Steady P s v := steady.trans (hv ▸ Steady.same)
      have knows : s.knows r → v.knows r := by unfold State.knows; rw [records']; exact id
      obtain ⟨descends, arms⟩ := armRecord_effect (P := P) (b := b) (a := r.affected.getD (b + 1)) (tag := k) (r := r) v
      refine ⟨fun h y hy => ?_, fun h => steady'.trans (arms fun p => knows (h p))⟩
      rw [← records']
      exact descends (knows h) y hy

theorem steady_foldArm {b : Nat} {rs : List Record} {s : State} (h : P → ∀ r ∈ rs, s.knows r) :
    Steady P s (rs.foldl (fun a r => a.armInto b r) s) := by
  induction rs generalizing s with
  | nil => exact Steady.refl s
  | cons r rs ih =>
    obtain ⟨descends, arms⟩ := armInto_effect (P := P) (b := b) (r := r) s
    refine (arms fun p => h p r (List.mem_cons_self ..)).trans (ih fun p x hx => ?_)
    exact knows_of_descends (descends (h p r (List.mem_cons_self ..))) (h p x (List.mem_cons_of_mem _ hx))

theorem steady_armAll {b : Nat} {rs : List Record} (h : P → ∀ r ∈ rs, s.knows r) : Steady P s (s.armAll b rs) :=
  steady_foldArm fun p r hr => h p r ((mem_sortBy _ _ _).mp hr)

/-- R85, R86: the arming pass. -/
theorem steady_armingPass (b : Nat) (s : State) : Steady P s (s.armingPass b) := by
  refine Steady.close ?_
  unfold State.armingPass
  dsimp only
  refine Steady.trans ?_ (frame_settlePending _ _ _).steady
  generalize hu : (((s.records.filter (s.eligible b)).filter s.rangeFails).foldl (fun a r => a.withdraw r .range) s) = u
  have steady : Steady s.recordsFit s u := hu ▸ Steady.foldl _ (fun s r => steady_withdraw r .range s) _ s
  have descends : s.descends u := hu ▸ descends_foldl _ (fun s r => descends_withdraw r .range s) _ s
  have near : s.recordsFit → ∀ r ∈ (s.records.filter (s.eligible b)).filter fun r => !u.rangeFails r, u.knows r := by
    intro f r hr
    have hr : r ∈ s.records := List.mem_of_mem_filter (List.mem_of_mem_filter hr)
    exact knows_of_descends descends (knows_of_mem ((State.recordsFit_iff s).mp f).1 hr)
  have base (v : State) (h : Steady s.recordsFit s v) :
      s.recordsFit → ∀ r ∈ (v.records.filter (v.baselineEligible b)).take 1, v.knows r := by
    intro f r hr
    exact knows_of_mem ((State.recordsFit_iff v).mp (h.fit f f)).1 (List.mem_of_mem_filter (List.mem_of_mem_take hr))
  refine steady.trans (Steady.ite ?_ ?_)
  · exact (steady_armAll near).trans (steady_armAll (base _ (steady.trans (steady_armAll near))))
  · refine steady_armAll fun f r hr => ?_
    exact (List.mem_append.mp hr).elim (near f r) (base u steady f r)

theorem steady_rollGroup (tag : Nat) (s : State) : Steady P s (s.rollGroup tag) := by
  unfold State.rollGroup
  dsimp only
  refine Steady.trans Steady.same (Steady.foldl _ (fun s p => ?_) _ _)
  exact Steady.ite ((frame_setPos p _ s).steady.trans (frame_noteSlot p _).steady) (Steady.refl s)

theorem steady_rollCalls (s : State) : Steady P s s.rollCalls := by
  unfold State.rollCalls
  split
  · exact Steady.refl s
  · exact (Steady.foldl _ (fun s k => steady_rollGroup k s) _ s).trans (frame_rollRehearsal _).steady

/-! ### Zones and rule sets -/

/-- R129: a zone without a record has no key in the schedule. -/
theorem sameKey_of_zoneRecord {z : Nat} {o : Int} {i : Nat} (h : s.zoneRecord z = none) :
    ∀ r ∈ s.records, (Change.shift z o i).sameKey r.change = false := by
  intro r hr
  have other := List.find?_eq_none.mp h r hr
  cases hc : r.change with
  | shift y _ _ => simpa [hc, Change.sameKey, eq_comm (a := z)] using other
  | _ => rfl

theorem steady_drawZone {b z : Nat} (hz : 1 ≤ z ∧ z ≤ 15) (s : State) : Steady P s (s.drawZone b z) := by
  unfold State.drawZone
  split
  · next x hnone hx =>
    refine steady_place (fun _ _ => sameKey_of_zoneRecord hnone) ?_ (fun _ _ => .inl rfl) fun h => by cases h
    simpa [Change.zoneFits] using hz
  · exact Steady.refl s

theorem steady_drawPass (cleared : Bool) (s : State) : Steady P s (s.drawPass cleared) := by
  unfold State.drawPass
  split
  · have zones : ∀ z ∈ allZones, 1 ≤ z ∧ z ≤ 15 := by decide
    generalize allZones = zs at zones
    clear * - zones
    induction zs generalizing s with
    | nil => exact Steady.refl s
    | cons z zs ih =>
      obtain ⟨hz, hzs⟩ := List.forall_mem_cons.mp zones
      exact (steady_drawZone hz s).trans (ih _ hzs)
  · exact Steady.refl s

theorem steady_install (r : RuleStore) (s : State) : Steady P s (s.install r) :=
  (frame_withRules r s).steady.trans (Steady.foldl _ (fun s x => steady_withdraw x .replaced s) _ _)

theorem steady_boundaryVerify (s : State) : Steady P s s.boundaryVerify := by
  unfold State.boundaryVerify
  refine Steady.ite ?_ (Steady.refl s)
  split
  · exact ((steady_install _ s).trans (frame_answerClaimer _ _ _).steady).trans (frame_idleLoader _).steady
  · exact (frame_answerClaimer _ _ s).steady.trans (frame_idleLoader _).steady

end Sys2Proof.Machine

namespace Sys2Proof.Machine

set_option Elab.async false

variable {P : Prop} {s t : State}

/-! ### Requests -/

/-- R55: records of one kind and key are one record. -/
theorem eq_of_sameKey {rs : List Record} (q : quotasHold rs) {x y : Record} (hx : x ∈ rs) (hy : y ∈ rs)
    (e : x.change.sameKey y.change = true) : x = y := by
  by_contra ne
  have keys : rs.Pairwise fun a b => a.change.sameKey b.change = false := List.pairwise_map.mp q.1.2.1
  have : Std.Symm fun a b : Record => a.change.sameKey b.change = false :=
    ⟨fun a b h => by rw [sameKey_comm]; exact h⟩
  rw [keys.forall hx hy ne] at e
  cases e

theorem keeps_takeView (leaving : Bool) (k : SourceKey) (v : View) (s : State) : Keeps s (takeView leaving k v s).1 := by
  unfold takeView
  split
  · exact Keeps.refl s
  · exact Keeps.ite ((keeps_putSource _ _ s).trans (keeps_departSources _ _)) (keeps_prompt _ _ s)

theorem Keeps.iteFst {α : Type} {c : Prop} [Decidable c] {x y : State × α} (h : Keeps s x.1) (k : Keeps s y.1) :
    Keeps s (if c then x else y).1 := by
  split <;> assumption

theorem keeps_accept (b : List Byte) (h : Keeps s t) : Keeps s (accept t b).1 := h

theorem keeps_announce (leaving : Bool) (p : Pos) (o d k : Byte) (i : Option (BitVec 40)) (s : State) :
    Keeps s (announce leaving p o d k i s).1 := by
  unfold announce
  split
  · exact Keeps.refl s
  · refine Keeps.iteFst (Keeps.refl s) (Keeps.iteFst (Keeps.refl s) ?_)
    split
    · exact Keeps.refl s
    · exact keeps_takeView _ _ _ s

theorem keeps_muteSource (p : Pos) (q o : Byte) (m : Option Bool) (s : State) : Keeps s (muteSource p q o m s).1 := by
  unfold muteSource
  refine Keeps.iteFst (Keeps.refl s) ?_
  split
  · split
    · split
      · exact Keeps.refl s
      · exact Keeps.iteFst (keeps_prompt _ _ s) (Keeps.iteFst (keeps_prompt _ _ s) (Keeps.refl s))
    · exact Keeps.refl s
  · exact Keeps.refl s

/-- A record that is no leap takes another state, origin or pre-contest state. -/
theorem steady_updateNoLeap {r : Record} {f : Record → Record} (hr : r ∈ s.records) (noLeap : r.change.isLeap = false)
    (hf : ∀ x, (f x).id = x.id ∧ (f x).change = x.change) : Steady P s (s.updateRecord r.id f) := by
  refine steady_updateRecord fun _ q x hx e => ⟨(hf x).1, (hf x).2, fun leap => ?_⟩
  obtain rfl := eq_of_id q hx hr e
  simp [noLeap] at leap

theorem noLeap_of_sameKey {c : Change} {v : Nat} (h : c.sameKey (.baseline v) = true) : c.isLeap = false := by
  cases c <;> simp_all [Change.sameKey, Change.isLeap]

theorem keeps_confirm (p : Pos) (id : Byte) (s : State) : Keeps s (confirm p id s).1 := by
  unfold confirm
  refine Keeps.iteFst (Keeps.refl s) (Keeps.iteFst ?_ ?_)
  · split
    · exact Keeps.refl s
    · exact Keeps.iteFst Keeps.same (Keeps.refl s)
  · split
    · exact Keeps.refl s
    · next r hr =>
      split
      · next held =>
        have noLeap : r.change.isLeap = false := by
          cases hc : r.change <;> simp_all [Change.isBaseline, Change.isLeap]
        refine keeps_accept _ (Keeps.trans ?_ (steady_tally _).keeps)
        exact (steady_updateNoLeap (mem_of_findRecord hr).1 noLeap (by exact fun _ => ⟨rfl, rfl⟩)).keeps
      · exact Keeps.refl s

/-- Records withdrawn one after the other by a test of their own: what is left are the others. -/
theorem records_foldWithdraw {f : Record → Bool} {why : Reason} (q : quotasHold s.records) :
    (s.records.foldl (fun a r => if f r then a.withdraw r why else a) s).records.Perm
      (s.records.filter fun r => !f r) := by
  have general (l : List Record) (s : State) :
      (l.foldl (fun a r => if f r then a.withdraw r why else a) s).records.Perm
        (s.records.filter fun x => !(l.any fun r => f r && x.id == r.id)) := by
    induction l generalizing s with
    | nil => simp
    | cons r l ih =>
      refine (ih _).trans ?_
      cases hf : f r
      · simp [hf]
      · simp only [hf, if_true, records_withdraw]
        refine ((sortBy_perm _ _).filter _).trans (List.Perm.of_eq ?_)
        simp [List.filter_filter, hf, Bool.and_comm]
  refine (general s.records s).trans (List.Perm.of_eq (List.filter_congr fun x hx => ?_))
  congr 1
  rw [Bool.eq_iff_iff]
  simp only [List.any_eq_true, Bool.and_eq_true, beq_iff_eq]
  constructor
  · rintro ⟨r, hr, hf, e⟩
    obtain rfl := eq_of_id q hx hr e
    exact hf
  · exact fun hf => ⟨x, hx, hf, rfl⟩

theorem steady_operatorBaseline {v : Nat}
    (room : P → quotasHold s.records → (∀ r ∈ s.records, r.change.sameKey (.baseline v) = false) →
      s.scaleCount < Config.scaleRoom) : Steady P s (s.operatorBaseline v) := by
  unfold State.operatorBaseline
  dsimp only
  split
  · next r hr =>
    exact steady_updateNoLeap (List.mem_of_find?_eq_some hr) (noLeap_of_sameKey (v := v) (by simpa using List.find?_some hr)) fun _ => ⟨rfl, rfl⟩
  · next none =>
    have fresh : ∀ r ∈ s.records, r.change.sameKey (.baseline v) = false := by
      simpa using List.find?_eq_none.mp none
    refine steady_place (fun _ _ r hr => ?_) rfl (fun p q => .inr (room p q fresh)) fun h => by cases h
    rw [sameKey_comm]
    exact fresh r hr

theorem steady_replaceBaselines (v : Nat) (s : State) : Steady P s (s.replaceBaselines v) :=
  Steady.foldl _ (fun s r => Steady.ite (steady_withdraw r .replaced s) (Steady.refl s)) _ s

/-- R75: the records beside which a BASELINE to `v` is placed, but for those of the zone class. -/
theorem scaleCount_replaceBaselines {v : Nat} (q : quotasHold s.records) :
    (s.replaceBaselines v).scaleCount = (s.records.filter fun r =>
      r.isScale && (!r.change.isBaseline || r.change.sameKey (.baseline v))).length := by
  unfold State.scaleCount State.replaceBaselines
  rw [((records_foldWithdraw q).filter _).length_eq, List.filter_filter]
  simp only [Bool.not_and, Bool.not_not]

theorem mem_replaceBaselines {v : Nat} {r : Record} (q : quotasHold s.records) (hr : r ∈ s.records)
    (stays : r.change.isBaseline = false ∨ r.change.sameKey (.baseline v) = true) : r ∈ (s.replaceBaselines v).records := by
  refine (records_foldWithdraw q).mem_iff.mpr (List.mem_filter.mpr ⟨hr, ?_⟩)
  rcases stays with h | h <;> simp [h]

theorem steady_unlist (c : Change) (s : State) : Steady P s (s.unlist c) := Steady.same

theorem steady_accept (b : List Byte) (h : Steady P s t) : Steady P s (accept t b).1 := h

/-- R75, step 7. -/
theorem steady_placeOffset (v : Nat) (s : State) : Steady P s (placeOffset v s).1 := by
  refine Steady.close ?_
  unfold placeOffset
  dsimp only
  generalize hkept : (s.records.filter fun r =>
    r.isScale && (!r.change.isBaseline || r.change.sameKey (.baseline v))) = kept
  have placed (u : State) (h : Steady s.recordsFit s u)
      (room : s.recordsFit → (∀ r ∈ u.records, r.change.sameKey (.baseline v) = false) → u.scaleCount < Config.scaleRoom) :
      Steady s.recordsFit s (((u.unlist (.baseline v)).operatorBaseline v).tally) := by
    refine Steady.trans ?_ (steady_tally _)
    exact (h.trans (steady_unlist _ u)).trans (steady_operatorBaseline fun f _ => room f)
  have count (f : s.recordsFit) : (s.replaceBaselines v).scaleCount = kept.length := by
    rw [scaleCount_replaceBaselines ((State.recordsFit_iff s).mp f).1, hkept]
  split
  · next fits =>
    refine steady_accept _ <| placed _ (steady_replaceBaselines v s) fun f fresh => ?_
    rw [count f]
    rcases Bool.or_eq_true_iff.mp fits with found | room
    · obtain ⟨r, hr, key⟩ := List.any_eq_true.mp found
      have mem : r ∈ s.records := by rw [← hkept] at hr; exact List.mem_of_mem_filter hr
      have := fresh r (mem_replaceBaselines ((State.recordsFit_iff s).mp f).1 mem (.inr key))
      rw [this] at key
      cases key
    · exact of_decide_eq_true room
  · split
    · next r hr =>
      obtain ⟨mem, scale, -, leap⟩ := mem_of_yielding hr
      have noBaseline : r.change.isBaseline = false := by
        cases hc : r.change <;> simp_all [Change.isBaseline, Change.isLeap]
      have steady : Steady s.recordsFit s (s.replaceBaselines v) := steady_replaceBaselines v s
      refine steady_accept _ <| placed _ (steady.trans (steady_withdraw r .displaced _)) fun f _ => ?_
      exact lt_of_lt_of_le
        (scaleCount_withdraw _ (mem_replaceBaselines ((State.recordsFit_iff s).mp f).1 mem (.inl noBaseline)) scale)
        (scaleCount_le ((State.recordsFit_iff _).mp (steady.fit f f)).1)
    · exact Steady.refl s

theorem keeps_setOffset (p : Pos) (v : BitVec 16) (s : State) : Keeps s (setOffset p v s).1 := by
  unfold setOffset
  dsimp only
  refine Keeps.iteFst (Keeps.refl s) (Keeps.iteFst (Keeps.refl s)
    (Keeps.iteFst (Keeps.refl s) (Keeps.iteFst (Keeps.iteFst Keeps.same (Keeps.refl s)) ?_)))
  split
  · next r hr =>
    have test : (r.change.sameKey (.baseline v.toNat) && r.state == .armed) = true :=
      List.find?_some (p := fun r : Record => r.change.sameKey (.baseline v.toNat) && r.state == .armed) hr
    have noLeap := noLeap_of_sameKey (Bool.and_eq_true_iff.mp test).1
    refine keeps_accept _ (Keeps.trans ?_ (steady_tally _).keeps)
    exact (steady_updateNoLeap (List.mem_of_find?_eq_some hr) noLeap (by exact fun _ => ⟨rfl, rfl⟩)).keeps
  · exact (steady_placeOffset _ s).keeps

theorem keeps_withdrawRequest (p : Pos) (id : Byte) (s : State) : Keeps s (withdrawRequest p id s).1 := by
  unfold withdrawRequest
  refine Keeps.iteFst (Keeps.refl s) (Keeps.iteFst (Keeps.refl s) ?_)
  split
  · exact Keeps.refl s
  · refine Keeps.iteFst (Keeps.refl s) (Keeps.iteFst (Keeps.refl s) ?_)
    refine keeps_accept _ (Keeps.trans ?_ (steady_tally _).keeps)
    exact (steady_withdraw _ _ s).keeps.trans (frame_markSkipped _ _).keeps

/-- R129, R131: the record of a zone, if it has one, is withdrawn, and the zone has none. -/
theorem sameKey_withdraw_zoneRecord {r : Record} {z : Nat} {o : Int} {i : Nat} {why : Reason} (q : quotasHold s.records)
    (h : s.zoneRecord z = some r) : ∀ x ∈ (s.withdraw r why).records, (Change.shift z o i).sameKey x.change = false := by
  intro x hx
  rw [records_withdraw] at hx
  obtain ⟨hx, apart⟩ := List.mem_filter.mp ((mem_sortBy _ _ _).mp hx)
  by_contra key
  have zone := List.find?_some h
  have one : r = x := by
    refine eq_of_sameKey q (List.mem_of_find?_eq_some h) hx ?_
    cases hr : r.change <;> cases hc : x.change <;> simp_all [Change.sameKey]
  simp [one] at apart

theorem keeps_shiftZone (p : Pos) (z : Byte) (o : BitVec 16) (i : BitVec 40) (s : State) :
    Keeps s (shiftZone p z o i s).1 := by
  unfold shiftZone
  dsimp only
  refine Keeps.iteFst (Keeps.refl s) ?_
  split
  · exact Keeps.refl s
  · next range =>
    have zone : (Change.shift z.toNat o.toInt i.toNat).zoneFits = true := by
      simp only [Change.zoneFits, Bool.not_eq_true', Bool.not_eq_false, Bool.and_eq_true, decide_eq_true_eq] at range ⊢
      exact range.1.1
    split
    · exact Keeps.refl s
    · refine Keeps.iteFst (Keeps.refl s) (Keeps.iteFst (Keeps.refl s) ?_)
      refine keeps_accept _ (Keeps.trans (Steady.keeps ?_) (steady_tally _).keeps)
      split
      · next r hr =>
        refine ((steady_withdraw r .replaced s).trans (frame_markSkipped r _).steady).trans
          (steady_place (fun f _ => ?_) zone (fun _ _ => .inl rfl) fun h => by cases h)
        have sched : ((s.withdraw r .replaced).markSkipped r).sched = (s.withdraw r .replaced).sched :=
          frame_markSkipped r _ .sched (by decide)
        unfold State.records
        rw [sched]
        exact sameKey_withdraw_zoneRecord ((State.recordsFit_iff s).mp f).1 hr
      · next hnone =>
        exact steady_place (fun _ _ => sameKey_of_zoneRecord hnone) zone (fun _ _ => .inl rfl) fun h => by cases h

/-- What a request of any kind keeps. -/
theorem keeps_perform (leaving : Bool) (p : Pos) (r : Request) (s : State) : Keeps s (perform leaving p r s).1 := by
  cases r with
  | announce o d k i => exact keeps_announce leaving p o d k i s
  | setTime x => exact (frame_setTime' p x s).keeps
  | setOffset v => exact keeps_setOffset p v s
  | confirm id => exact keeps_confirm p id s
  | withdraw id => exact keeps_withdrawRequest p id s
  | shiftZone z o i => exact keeps_shiftZone p z o i s
  | configure k v => exact (frame_configure p k v s).keeps
  | setPosition q m z => exact (frame_setPosition p q m z s).keeps
  | muteSource q o a => exact keeps_muteSource p q o _ s
  | clearScale => exact Keeps.iteFst (Keeps.refl s) Keeps.same
  | rulesetStart l u n => exact (frame_rulesetStart p l u n s).keeps
  | rulesetData b => exact (frame_rulesetData p b s).keeps
  | rulesetFinish => exact (frame_rulesetFinish p s).keeps
  | rulesetAbandon => exact (frame_rulesetAbandon p s).keeps
  | rehearse n => exact (frame_rehearse p n s).keeps
  | rehearsalCancel => exact (frame_rehearsalCancel p s).keeps
  | query k i => exact (frame_query k i s).keeps

theorem keeps_takeRequest (leaving : Bool) (p : Pos) (r : Request) (s : State) : Keeps s (s.takeRequest leaving p r) :=
  (keeps_perform leaving p r s).trans (frame_owe p _ _).keeps

theorem keeps_takeRequests (leaving : List Pos) (l : List Arrived) (s : State) : Keeps s (s.takeRequests leaving l) :=
  Keeps.foldl _ (fun s (a : Arrived) => Keeps.ite (keeps_takeRequest _ a.1 a.2 s) (Keeps.refl s)) l s

/-! ### The end of an event (R176) -/

/-- R175: the copy holds ids and changes of records of the schedule. -/
theorem steady_sync (s : State) : Steady P s s.sync := by
  refine ⟨rfl, rfl, rfl, rfl, rfl, id, fun _ f => ?_, fun _ _ => id⟩
  rw [State.recordsFit_iff] at f ⊢
  have held : quotasHold (s.records.filter Record.isRetained) := quotasHold_sublist List.filter_sublist f.1
  refine ⟨f.1, ?_, ?_⟩ <;> simp only [State.sync, State.setStore, State.image, List.map_map]
  · exact held.1
  · exact held.2

theorem steady_finish (s : State) : Steady P s s.finish := (frame_refreshOffers s).steady.trans (steady_sync _)

theorem keeps_deliver (p : Pos) (r : Request) (s : State) : Keeps s (s.deliver p r) := by
  refine Keeps.ite ?_ (Keeps.refl s)
  refine Keeps.trans ?_ (steady_finish _).keeps
  refine Keeps.trans ?_ (keeps_takeRequest _ p r _)
  exact (frame_nextMoment s).keeps.trans (frame_passBytes p _ _).keeps

/-! ### Boundaries (R84) -/

/-- The boundary as the Source Table has worked it: T, settings and sources of the second that begins. -/
def State.sourced (s : State) : State :=
  let r := s.nextMoment.boundaryInputs.boundaryMove s.time.t s.time.retimes
  r.boundarySources s.time.t (decide (r.value Config.persistence ≠ s.value Config.persistence))

/-- The boundary as steps 1 to 5 of R84 have worked it. -/
def State.rescaled (s : State) : State := s.sourced.boundaryScale s.time.retimes

/-- The boundary as the Roster, last before the Label Unit, has worked it. -/
def State.worked (s : State) : State :=
  let c := (((s.rescaled.boundaryVerify).drawPass s.scale.clearPending).tally).boundaryArm s.time.retimes
  c.boundaryRoster (decide (c.scale.g ≠ s.scale.g))

theorem boundary_eq (s : State) :
    s.boundary = s.worked.boundaryLabels.checkBackup.beginSecond.finish.latch := by
  unfold State.boundary State.worked State.rescaled State.sourced
  dsimp only

theorem keeps_sourced (s : State) : Keeps s s.sourced := by
  refine Keeps.trans ?_ (keeps_boundarySources _ _ _)
  exact ((frame_nextMoment s).keeps.trans (frame_boundaryInputs _).keeps).trans (frame_boundaryMove _ _ _).keeps

theorem keeps_boundaryScale (retime : Bool) (s : State) : Keeps s (s.boundaryScale retime) := by
  refine Keeps.trans ?_ (keeps_boundaryApply retime _)
  refine Keeps.trans ?_ (steady_boundarySettling _).keeps
  refine Keeps.trans ?_ (steady_boundaryProvisional _).keeps
  exact (keeps_boundaryClear s).trans (keeps_boundaryInserted _)

theorem steady_boundaryArm (retime : Bool) (s : State) : Steady P s (s.boundaryArm retime) := by
  unfold State.boundaryArm
  split
  · exact (steady_missedPass _ _ s).trans (steady_armingPass _ _)
  · exact Steady.refl s

theorem steady_worked (s : State) : Steady P s.rescaled s.worked := by
  refine Steady.trans ?_ (frame_boundaryRoster _ _).steady
  refine Steady.trans ?_ (steady_boundaryArm _ _)
  refine Steady.trans ?_ (steady_tally _)
  exact (steady_boundaryVerify _).trans (steady_drawPass _ _)

theorem steady_checkBackup (s : State) : Steady P s s.checkBackup := Steady.same

theorem steady_boundary (s : State) : Steady P s.rescaled s.boundary := by
  rw [boundary_eq]
  refine Steady.trans ?_ (frame_latch _).steady
  refine Steady.trans ?_ (steady_finish _)
  refine Steady.trans ?_ (frame_beginSecond _).steady
  refine Steady.trans ?_ (steady_checkBackup _)
  exact (steady_worked s).trans (frame_boundaryLabels _).steady

theorem keeps_boundary (s : State) : Keeps s s.boundary :=
  ((keeps_sourced s).trans (keeps_boundaryScale _ _)).trans (steady_boundary s).keeps

theorem steady_quietStart (s : State) : Steady P s s.quietStart := by
  refine Steady.trans ?_ (steady_finish _)
  refine Steady.trans ?_ (frame_resetLanes _).steady
  exact (frame_nextMoment s).steady.trans (steady_rollCalls _)

theorem keeps_beginQuiet (s : State) : Keeps s s.beginQuiet := by
  refine Keeps.ite ?_ (steady_quietStart s).keeps
  refine Keeps.trans ?_ (steady_quietStart _).keeps
  exact ((frame_setTime _ s).keeps.trans (frame_settleLoader _).keeps).trans (frame_latch _).keeps

theorem keeps_realign (p : Nat) (s : State) : Keeps s (s.realign p) := by
  refine Keeps.trans ?_ (keeps_boundary _)
  refine Keeps.trans ?_ (frame_noteSlip p _).keeps
  refine Keeps.trans ?_ (frame_setTime _ _).keeps
  refine Keeps.trans ?_ (frame_resetLanes _).keeps
  exact (frame_nextMoment s).keeps.trans (steady_rollCalls _).keeps

theorem keeps_settle (s : State) : Keeps s s.settle := by
  unfold State.settle
  split
  · exact Keeps.refl s
  · exact keeps_boundary s
  · exact keeps_realign _ s

/-! ### The end of a frame (R148) -/

theorem keeps_departures (prompted : Bool) (gone : List Pos) (s : State) : Keeps s (s.departures prompted gone) := by
  have h : Keeps s (gone.foldl (fun s p => ((s.clearLane p).departSources p).departLoader p) s) :=
    Keeps.foldl _ (fun s p => ((frame_clearLane p s).keeps.trans (keeps_departSources p _)).trans
      (frame_departLoader p _).keeps) _ s
  exact Keeps.ite (h.trans (steady_tally _).keeps) h

theorem keeps_frameEvents (segs : List (BitVec 48)) (s before : State) : Keeps s (s.frameEvents segs before) := by
  refine Keeps.trans ?_ (frame_expireLoader _).keeps
  refine Keeps.trans ?_ (frame_frameRehearsal _).keeps
  refine Keeps.trans ?_ (frame_arbitrate _).keeps
  refine Keeps.trans ?_ (frame_setTime _ _).keeps
  refine Keeps.trans ?_ (Keeps.foldl _ (fun s p => (frame_noteSlot p s).keeps) _ _)
  exact (frame_setRoster _ s).keeps.trans (keeps_departures _ _ _)

theorem keeps_frameWork (segs : List (BitVec 48)) (order : FrameOrder) (s : State) :
    Keeps s (s.frameWork segs order) := by
  unfold State.frameWork
  dsimp only
  refine Keeps.trans ?_ (frame_setTime _ _).keeps
  refine Keeps.trans ?_ (frame_settleLoader _).keeps
  refine Keeps.trans ?_ (keeps_takeRequests _ _ _)
  refine Keeps.trans ?_ (keeps_takeRequests _ _ _)
  have heard : Keeps s (((s.hearLanes segs).answerForms (s.arrivals segs)).tickLoader) :=
    ((frame_setLanes _ s).keeps.trans (frame_answerForms _ _).keeps).trans (frame_tickLoader _).keeps
  exact Keeps.ite (heard.trans ((keeps_takeRequests _ _ _).trans (keeps_frameEvents _ _ _)))
    (heard.trans ((keeps_frameEvents _ _ _).trans (keeps_takeRequests _ _ _)))

theorem keeps_openFrame (s : State) : Keeps s s.openFrame := by
  have finish : Keeps s s.finish := (steady_finish s).keeps
  unfold State.openFrame
  split
  · refine Keeps.ite (finish.trans ((frame_latch _).keeps.trans (steady_quietStart _).keeps)) ?_
    exact ((finish.trans (frame_arbiters _).keeps).trans (steady_finish _).keeps).trans (frame_latch _).keeps
  · exact finish

theorem keeps_frameEnd (segs : List (BitVec 48)) (order : FrameOrder) (s : State) : Keeps s (frameEnd segs order s) := by
  refine Keeps.ite ?_ (Keeps.refl s)
  exact (((keeps_settle s).trans (frame_nextMoment _).keeps).trans (keeps_frameWork _ _ _)).trans (keeps_openFrame _)

/-! ### Start-up (R178 to R180) -/

/-- R179: restored records are reckoned on the restored D. -/
theorem keeps_startFrom (s : State) : Keeps s (s.startFrom s.store.source) := by
  refine ⟨fun _ => inOrder_sortBy _, fun f => ?_, fun _ _ => ?_⟩
  · rw [State.recordsFit_iff] at f ⊢
    have source : changesFit (s.store.source.records.map RetainedRecord.change) ∧
        idsFit (s.store.source.records.map RetainedRecord.id) := by
      unfold Store.source
      split
      · exact f.2
      · exact quotasHold_nil
    refine ⟨quotasHold_sortBy ?_, f.2⟩
    unfold quotasHold
    simp only [List.map_map]
    exact source
  · rw [State.leapsReckoned_iff]
    intro r hr d k e hd hc _ _
    obtain ⟨x, -, rfl⟩ := List.mem_map.mp ((mem_sortBy _ _ _).mp hr)
    obtain hd : s.store.source.d = some d := hd
    obtain hc : x.change = .leap k e := hc
    simp [RetainedRecord.restore, hd, hc]

theorem keeps_withMoment (n : Nat) (s : State) : Keeps s { s with moment := n } := Keeps.same

theorem keeps_startUp (s : State) : Keeps s s.startUp := by
  unfold State.startUp
  exact ((keeps_startFrom s).trans (keeps_boundary _)).trans (keeps_withMoment 0 _)

end Sys2Proof.Machine

namespace Sys2Proof.Machine

set_option Elab.async false

variable {s t : State}

/-! ### Commands -/

theorem keeps_next {u : State} (h : Keeps s u) (k : (.next u : Result) = .next t) : Keeps s t := by
  cases k
  exact h

theorem keeps_nextIte {c : Prop} [Decidable c] {u v : State} (h : Keeps s u) (k : Keeps s v)
    (e : (if c then .next u else .next v : Result) = .next t) : Keeps s t := by
  split at e <;> cases e <;> assumption

theorem keeps_secondBoundary (h : execSecondBoundary s = .next t) : Keeps s t := by
  unfold execSecondBoundary at h
  split at h
  · split at h
    · exact keeps_next (keeps_realign _ s) h
    · exact keeps_next (keeps_boundary s) h
    · exact keeps_next ((steady_quietStart s).keeps.trans (keeps_boundary _)) h
  · exact keeps_next (Keeps.refl s) h

theorem keeps_strike (s : State) : Keeps s s.strike := by
  unfold State.strike
  split
  · exact (frame_setTime _ s).keeps
  · exact Keeps.refl s

theorem keeps_realignment (h : execRealignment s = .next t) : Keeps s t := by
  unfold execRealignment at h
  split at h
  · split at h
    · exact keeps_next (keeps_realign _ s) h
    · exact keeps_next (Keeps.refl s) h
    · split at h
      · exact keeps_next ((keeps_strike s).trans (keeps_realign _ _)) h
      · exact keeps_next (Keeps.refl s) h
  · exact keeps_next (Keeps.refl s) h

theorem keeps_badForm {p : Pos} {bytes : List Byte} (h : execBadForm p bytes s = .next t) : Keeps s t := by
  unfold execBadForm at h
  split at h
  · refine keeps_next (Keeps.trans ?_ (steady_finish _).keeps) h
    exact ((frame_nextMoment s).keeps.trans (frame_passBytes p _ _).keeps).trans (frame_owe p _ _).keeps
  · exact keeps_next (Keeps.refl s) h

theorem keeps_unknownKind {p : Pos} {kind : Byte} {payload : List Byte}
    (h : execUnknownKind p kind payload s = .next t) : Keeps s t := by
  refine keeps_nextIte (Keeps.trans ?_ (steady_finish _).keeps) (Keeps.refl s) h
  exact ((frame_nextMoment s).keeps.trans (frame_passBytes p _ _).keeps).trans (frame_owe p _ _).keeps

theorem keeps_transferBegin {p : Pos} (h : execTransferBegin p s = .next t) : Keeps s t := by
  have arbiter : Keeps s (s.nextMoment.arbiter p).finish :=
    ((frame_nextMoment s).keeps.trans (frame_arbiter p _).keeps).trans (steady_finish _).keeps
  exact keeps_nextIte (Keeps.ite arbiter (arbiter.trans (frame_latchOut p _).keeps)) (Keeps.refl s) h

/-- An event of one moment that a timer, a lane or a source brings. -/
theorem keeps_event {f : State → State} (hf : Keeps s.nextMoment (f s.nextMoment)) : Keeps s (f s.nextMoment).finish :=
  ((frame_nextMoment s).keeps.trans hf).trans (steady_finish _).keeps

/-- R42: a silence count that reaches its limit. -/
theorem keeps_staleEntry (i : Fin 16) (s : State) : Keeps s (staleEntry i s) := by
  unfold staleEntry
  exact Keeps.ite (keeps_prompt _ _ s) (Keeps.refl s)

/-- What every command keeps of the schedule. -/
theorem keeps_exec {c : Instr} (h : exec c s = .next t) : Keeps s t := by
  cases c with
  | startUp => exact keeps_next ((frame_setPins _ s).keeps.trans (keeps_startUp _)) h
  | resetAssert clk =>
    exact keeps_nextIte ((frame_setTime _ s).keeps.trans (frame_setPins _ _).keeps) (frame_setPins _ s).keeps h
  | mainPowerLoss => exact keeps_next (frame_setPins _ s).keeps h
  | vbakLow n => exact keeps_next Keeps.same h
  | refclkStop clk =>
    exact keeps_nextIte ((frame_setTime _ s).keeps.trans (frame_setPins _ _).keeps) (frame_setPins _ s).keeps h
  | refclkResume => exact keeps_next (frame_setPins _ s).keeps h
  | frameEnd segs order => exact keeps_next (keeps_frameEnd segs order s) h
  | markMiss c => exact keeps_nextIte (keeps_event (frame_markMiss c _).keeps) (Keeps.refl s) h
  | secondBoundary => exact keeps_secondBoundary h
  | stale i => exact keeps_nextIte (keeps_event (keeps_staleEntry i _)) (Keeps.refl s) h
  | takeCheckDue p => exact keeps_nextIte (keeps_event (frame_takeCheckDue p _).keeps) (Keeps.refl s) h
  | lagLimitReached p => exact keeps_nextIte (keeps_event (frame_lagLimitReached p _).keeps) (Keeps.refl s) h
  | quietFrames => exact keeps_nextIte (keeps_beginQuiet s) (Keeps.refl s) h
  | realignment => exact keeps_realignment h
  | loadTimedOut => exact keeps_nextIte (keeps_event (frame_loadTimedOut _).keeps) (Keeps.refl s) h
  | transferBegin p => exact keeps_transferBegin h
  | transferComplete p => exact keeps_nextIte (keeps_event (frame_setLane p _ _).keeps) (Keeps.refl s) h
  | badForm p bytes => exact keeps_badForm h
  | unknownKind p kind payload => exact keeps_unknownKind h
  | announce p o d k i => exact keeps_next (keeps_deliver p (.announce o d k i) s) h
  | setTime p x => exact keeps_next (keeps_deliver p (.setTime x) s) h
  | setOffset p v => exact keeps_next (keeps_deliver p (.setOffset v) s) h
  | confirm p id => exact keeps_next (keeps_deliver p (.confirm id) s) h
  | withdraw p id => exact keeps_next (keeps_deliver p (.withdraw id) s) h
  | shiftZone p z o i => exact keeps_next (keeps_deliver p (.shiftZone z o i) s) h
  | configure p k v => exact keeps_next (keeps_deliver p (.configure k v) s) h
  | setPosition p q m z => exact keeps_next (keeps_deliver p (.setPosition q m z) s) h
  | muteSourceMute p q o => exact keeps_next (keeps_deliver p (.muteSource q o 0) s) h
  | muteSourceUnmute p q o => exact keeps_next (keeps_deliver p (.muteSource q o 1) s) h
  | clearScale p => exact keeps_next (keeps_deliver p .clearScale s) h
  | rulesetStart p l u n => exact keeps_next (keeps_deliver p (.rulesetStart l u n) s) h
  | rulesetData p b => exact keeps_next (keeps_deliver p (.rulesetData b) s) h
  | rulesetFinish p => exact keeps_next (keeps_deliver p .rulesetFinish s) h
  | rulesetAbandon p => exact keeps_next (keeps_deliver p .rulesetAbandon s) h
  | rehearse p n => exact keeps_next (keeps_deliver p (.rehearse n) s) h
  | rehearsalCancel p => exact keeps_next (keeps_deliver p .rehearsalCancel s) h
  | querySchedule p i => exact keeps_next (keeps_deliver p (.query 0 i) s) h
  | querySource p i => exact keeps_next (keeps_deliver p (.query 1 i) s) h
  | queryPosition p i => exact keeps_next (keeps_deliver p (.query 2 i) s) h
  | queryHistory p i => exact keeps_next (keeps_deliver p (.query 3 i) s) h
  | queryConfig p i => exact keeps_next (keeps_deliver p (.query 4 i) s) h
  | queryZone p i => exact keeps_next (keeps_deliver p (.query 5 i) s) h
  | queryRuleset p i => exact keeps_next (keeps_deliver p (.query 6 i) s) h
  | queryRehearsal p i => exact keeps_next (keeps_deliver p (.query 7 i) s) h

theorem keeps_step (h : step s = .next t) : Keeps s t := by
  unfold step at h
  split at h
  · exact keeps_next (Keeps.refl s) h
  · exact Keeps.trans Keeps.same (keeps_exec h)

/-- Settles O11: every command keeps schedule order, the reckoning of unarmed leaps, and the ids and quotas (`Keeps`), by one
lemma for each operation of the model. -/
theorem recordsStayInOrder : Obligations.RecordsStayInOrder := by
  refine ⟨fun s t ordered h => (keeps_step h).ordered ordered, ?_⟩
  rintro s t ⟨reckoned, fit⟩ h
  exact ⟨(keeps_step h).reckoned fit reckoned, (keeps_step h).fit fit⟩

end Sys2Proof.Machine

namespace Sys2Proof.Machine

set_option Elab.async false

/-! ### The progress of a window (R30) -/

/-- R30: the progress reaches its full count exactly where the window has run its length. -/
theorem progress_full_iff {w : Window} (h : 0 < w.length) (n : Nat) :
    w.progress n = 10 ^ 9 ↔ w.length ≤ n - w.start := by
  unfold Window.progress
  constructor
  · intro full
    by_contra short
    have less : min (n - w.start) w.length * 1000000000 < w.length * 10 ^ 9 := by omega
    have := Nat.div_lt_of_lt_mul less
    omega
  · intro long
    rw [min_eq_right long]
    exact Nat.mul_div_cancel_left _ h

/-- R30: the progress never passes its full count. -/
theorem progress_le (w : Window) (n : Nat) : w.progress n ≤ 10 ^ 9 := by
  apply Nat.div_le_of_le_mul
  have := min_le_right (n - w.start) w.length
  omega

/-- R30: the progress never falls. -/
theorem progress_mono (w : Window) {n m : Nat} (h : n ≤ m) : w.progress n ≤ w.progress m :=
  Nat.div_le_div_right (Nat.mul_le_mul_right _ (min_le_min_right _ (Nat.sub_le_sub_right h _)))

/-- Settles O58, by the bound of the clamped count. -/
theorem smearProgress : Obligations.SmearProgress := by
  intro w n m positive day
  have clamp := min_le_right (n - w.start) w.length
  exact ⟨rfl, by omega, progress_le w n, progress_full_iff positive n, progress_mono w⟩

/-! ### The window of a leap (R27 to R29) -/

/-- R29: the leap record that is the last one, ARMED or SETTLING, before affected second `a` gives the window before `a`. -/
theorem windowBefore_eq {s : State} {a y : Nat} {r : Record} {z : Window} (ordered : s.recordsOrdered)
    (hr : r ∈ s.records) (busy : r.leapBusy = true) (hy : r.affected = some y) (hz : r.window = some z) (before : y < a)
    (last : ∀ q ∈ s.records, q.leapBusy = true → q ≠ r → ∀ u, q.affected = some u → u < y ∨ a ≤ u) :
    s.windowBefore a = z.stop := by
  unfold State.windowBefore
  dsimp only
  generalize hl : (s.records.filter fun r => r.leapBusy && _) = l
  have mem : r ∈ l := by rw [← hl]; exact List.mem_filter.mpr ⟨hr, by simp [busy, hy, before]⟩
  have sorted : inOrder l := by rw [← hl]; exact List.Pairwise.sublist List.filter_sublist ordered
  have newest : l.getLast? = some r := by
    obtain ⟨front, q, hq⟩ : ∃ front q, l = front ++ [q] :=
      ⟨l.dropLast, l.getLast (List.ne_nil_of_mem mem), (List.dropLast_append_getLast _).symm⟩
    have inFilter : q ∈ l := by simp [hq]
    rw [← hl] at inFilter
    obtain ⟨hmem, test⟩ := List.mem_filter.mp inFilter
    obtain ⟨qbusy, near⟩ := Bool.and_eq_true_iff.mp test
    rw [hq, List.getLast?_append, List.getLast?_singleton]
    by_cases same : q = r
    · rw [same]; rfl
    · exfalso
      have front_r : r ∈ front := by
        rw [hq] at mem
        simpa [Ne.symm same] using mem
      rw [hq] at sorted
      have order := (List.pairwise_append.mp sorted).2.2 r front_r q (List.mem_singleton_self q)
      cases hu : q.affected with
      | none => simp [hu] at near
      | some u =>
        simp only [hu, decide_eq_true_eq] at near
        rw [before_iff] at order
        simp only [hy, hu] at order
        have := last q hmem qbusy same u hu
        omega
  rw [newest]
  simp [hz]

theorem windowBefore_zero {s : State} {a : Nat}
    (h : ∀ r ∈ s.records, r.leapBusy = true → ∀ y, r.affected = some y → a ≤ y) : s.windowBefore a = 0 := by
  unfold State.windowBefore
  dsimp only
  split
  · next r hr =>
    obtain ⟨mem, test⟩ := List.mem_filter.mp (List.mem_of_getLast? hr)
    obtain ⟨busy, near⟩ := Bool.and_eq_true_iff.mp test
    cases hy : r.affected with
    | none => simp [hy] at near
    | some y =>
      simp only [hy, decide_eq_true_eq] at near
      exact absurd near (Nat.not_lt.mpr (h r mem busy y hy))
  · rfl

/-- R28, R29: where the effective window starts, unless it is collapsed. -/
def State.windowStart (s : State) (i a b : Nat) : Nat := max (max (i - s.windowLead) b) (s.windowBefore a)

theorem windowOf_open {s : State} {k : LeapKind} {i a b d : Nat} (h : s.windowStart i a b < i) :
    s.windowOf k i a b d =
      ⟨s.windowStart i a b, i + s.value Config.smearWindow - s.windowLead,
        i + s.value Config.smearWindow - s.windowLead - s.windowStart i a b, d, leapOffset k d⟩ := by
  unfold State.windowStart at h
  simp only [State.windowOf, State.windowStart, h, if_true]

theorem windowOf_collapsed {s : State} {k : LeapKind} {i a b d : Nat} (h : i ≤ s.windowStart i a b) :
    s.windowOf k i a b d = ⟨i, i, 0, d, leapOffset k d⟩ := by
  unfold State.windowStart at h
  simp only [State.windowOf, Nat.not_lt.mpr h, if_false]

theorem windowOf_offsets (s : State) (k : LeapKind) (i a b d : Nat) :
    (s.windowOf k i a b d).dOld = d ∧ (s.windowOf k i a b d).dNew = leapOffset k d := by
  rcases Nat.lt_or_ge (s.windowStart i a b) i with h | h
  · rw [windowOf_open h]; exact ⟨rfl, rfl⟩
  · rw [windowOf_collapsed h]; exact ⟨rfl, rfl⟩

/-- Settles O57: the window is open where it starts before the instant, and collapsed else. -/
theorem nominalWindow : Obligations.NominalWindow := by
  intro s k i a b d fits
  have lead : s.windowLead = if s.value Config.placement = 0 then s.value Config.smearWindow
      else s.value Config.smearWindow / 2 := rfl
  have start : s.windowStart i a b = max (max (i - s.windowLead) b) (s.windowBefore a) := rfl
  have lead_le : s.windowLead ≤ s.value Config.smearWindow := by rw [lead]; split <;> omega
  obtain ⟨old, new⟩ := windowOf_offsets s k i a b d
  simp only [← lead, ← start]
  refine ⟨?_, ?_, ?_, ?_, ?_, old, ?_, fun ordered r hr y z busy hy hz before last =>
    windowBefore_eq ordered hr busy hy hz before last, windowBefore_zero⟩
  · intro h
    rw [windowOf_open h]
    refine ⟨rfl, ?_, ?_⟩ <;> simp only <;> omega
  · intro h
    rw [windowOf_collapsed h]
    exact ⟨rfl, rfl, rfl⟩
  · intro hb before two
    have begins : s.windowStart i a b = i - s.windowLead := by omega
    have positive : 0 < s.windowLead := by rw [lead]; split <;> omega
    rw [windowOf_open (by omega)]
    refine ⟨begins, ?_⟩
    simp only
    omega
  · intro h ending
    rw [if_pos ending] at lead
    rw [windowOf_open h]
    simp only
    omega
  · intro h centred
    rw [if_neg centred] at lead
    rw [windowOf_open h]
    simp only
    omega
  · rw [new]
    cases k <;> rfl

/-! ### The view of an ANNOUNCE (R20 to R22, R35) -/

/-- R20: a supplied instant gives day `e` where it is the instant of a leap of that day, and the day is in range. -/
theorem suppliedDay_eq_some {k : LeapKind} {ds i e : Nat} {inferred : Bool} : suppliedDay k ds i = some e ↔
    1 ≤ e ∧ e ≤ Config.maxDay ∧ i = sourceInstant ds ⟨k, e, inferred⟩ := by
  unfold suppliedDay sourceInstant
  cases k <;>
    simp only [Option.ite_none_right_eq_some, Bool.and_eq_true, decide_eq_true_eq, Option.some.injEq] <;>
    simp only [Config.maxDay, Config.dayLength] <;> omega

/-- R184: the code of a kind of leap. -/
def LeapKind.code : LeapKind → Byte
  | .insert => 1
  | .delete => 2

/-- R35, check 4: a leap that would carry the source's offset out of range. -/
theorem announcedView_outOfRange {k : LeapKind} {ds : Nat} (t instant : Option Nat) (h : leapInRange k ds = false) :
    announcedView t ds k.code instant = .error .outOfRange := by
  cases k <;> simp [announcedView, LeapKind.code, h]

/-- R20, R35: a supplied instant gives a day or none. -/
theorem announcedView_supplied {k : LeapKind} {ds : Nat} (t : Option Nat) (i : Nat) (h : leapInRange k ds = true) :
    (∀ e, suppliedDay k ds i = some e → announcedView t ds k.code (some i) = .ok ⟨ds, some ⟨k, e, false⟩⟩) ∧
    (suppliedDay k ds i = none → announcedView t ds k.code (some i) = .error .outOfRange) := by
  cases k <;> exact ⟨fun e day => by simp [announcedView, LeapKind.code, h, day],
    fun day => by simp [announcedView, LeapKind.code, h, day]⟩

/-- R21, R35: no instant, T unknown. -/
theorem announcedView_unset {k : LeapKind} {ds : Nat} (h : leapInRange k ds = true) :
    announcedView none ds k.code none = .error .unset := by
  cases k <;> simp [announcedView, LeapKind.code, h]

/-- R21: the day that begins next, where it is in range. -/
theorem inferredDay_eq {ds n : Nat} (h : ds < n) : inferredDay ds n =
    if (n - ds) / 86400 + 1 ≤ 12725829 then some ((n - ds) / 86400 + 1) else none := by
  have day : ((n : Int) - ds) / 86400 + 1 = (((n - ds) / 86400 + 1 : Nat) : Int) := by omega
  unfold inferredDay
  simp only [day, Config.maxDay, Int.toNat_natCast]
  by_cases fits : (n - ds) / 86400 + 1 ≤ 12725829
  · rw [if_pos (by simp; omega), if_pos fits]
  · rw [if_neg (by simp; omega), if_neg fits]

/-- R20: the view of a supplied instant, which falls on a day's instant or on none. -/
theorem announcedView_of_instant {k : LeapKind} {ds i : Nat} {t : Option Nat} (h : leapInRange k ds = true) :
    (∀ e, 1 ≤ e → e ≤ 12725829 → i = sourceInstant ds ⟨k, e, false⟩ →
      announcedView t ds k.code (some i) = .ok ⟨ds, some ⟨k, e, false⟩⟩) ∧
    ((∀ e, 1 ≤ e → e ≤ 12725829 → i ≠ sourceInstant ds ⟨k, e, false⟩) →
      announcedView t ds k.code (some i) = .error .outOfRange) := by
  obtain ⟨taken, refused⟩ := announcedView_supplied t i h
  constructor
  · intro e low high hi
    exact taken e ((suppliedDay_eq_some (inferred := false)).mpr ⟨low, high, hi⟩)
  · intro noDay
    refine refused (Option.eq_none_iff_forall_ne_some.mpr fun e day => ?_)
    obtain ⟨low, high, hi⟩ := (suppliedDay_eq_some (inferred := false)).mp day
    exact noDay e low high hi

/-- R21: the view without an instant. -/
theorem announcedView_of_now {k : LeapKind} {ds n : Nat} (h : leapInRange k ds = true) (hn : ds < n) :
    announcedView (some n) ds k.code none =
      if (n - ds) / 86400 + 1 ≤ 12725829 then .ok ⟨ds, some ⟨k, (n - ds) / 86400 + 1, true⟩⟩
      else .error .outOfRange := by
  have day := inferredDay_eq hn
  split at day
  · next fits =>
    rw [if_pos fits]
    cases k <;> simp [announcedView, LeapKind.code, h, day]
  · next far =>
    rw [if_neg far]
    cases k <;> simp [announcedView, LeapKind.code, h, day]

/-- Settles O42, by the checks of R35 for either kind of leap. -/
theorem announcedViews : Obligations.AnnouncedViews := by
  intro t ds instant
  have insert (h : ds < 255) : leapInRange .insert ds = true := decide_eq_true h
  have delete (h : 0 < ds) : leapInRange .delete ds = true := decide_eq_true h
  refine ⟨rfl, ?_, ?_, ?_, ?_, ?_, ?_, ?_⟩
  · exact fun h => announcedView_outOfRange t instant (k := .insert) (decide_eq_false (by omega))
  · exact announcedView_outOfRange t instant (k := .delete) rfl
  · exact fun i h => announcedView_of_instant (insert h)
  · intro i h
    obtain ⟨day, noDay⟩ := announcedView_of_instant (t := t) (i := i) (delete h)
    have instant_iff (e : Nat) (low : 1 ≤ e) : i + 1 = 86400 * e + ds ↔ i = sourceInstant ds ⟨.delete, e, false⟩ := by
      simp only [sourceInstant, Config.dayLength]
      omega
    refine ⟨fun e low high hi => day e low high ((instant_iff e low).mp hi), fun none => noDay fun e low high => ?_⟩
    exact mt (instant_iff e low).mpr (none e low high)
  · exact fun h => announcedView_unset (insert h)
  · exact fun h => announcedView_unset (delete h)
  · exact fun n hn => ⟨fun h => announcedView_of_now (insert h) hn, fun h => announcedView_of_now (delete h) hn⟩

end Sys2Proof.Machine

namespace Sys2Proof.Machine

set_option Elab.async false

/-! ### A boundary that applies nothing leaves the history as long as it was -/

/-- An INSERT of day 1, ARMED for second 86437 in group 1. -/
def dueInsert : Record :=
  { id := 1, change := .leap .insert 1, affected := some 86437, origin := .sources, state := .armed, preContest := none,
    vouch := 4, oppose := 0, restored := false, late := false, tag := some 1,
    window := some ⟨37, 86438, 86401, 255, 256⟩, created := some 500, ref := none, roll := none }

/-- The device at D 255 with that INSERT due at the next boundary, where the range check of R22 refuses it, so that nothing is
applied. Its history holds nine entries. -/
def longHistory : State :=
  let entry : HistoryEntry :=
    { gen := 0, kind := .shift, id := none, instant := none, affected := none, dAfter := none, shift := none,
      applied := none }
  let s := State.reset
  { s with
    time := { s.time with t := some 86436 }
    sched := { s.sched with records := [dueInsert] }
    scale := { s.scale with d := some 255, groups := [⟨86437, 1, none⟩], history := List.replicate 9 entry } }

theorem length_lastN_le {α : Type} (n : Nat) (l : List α) : (lastN n l).length ≤ n := by
  unfold lastN
  rw [List.length_drop]
  omega

/-- The model run: the nine entries stand after the boundary. -/
theorem longHistory_stays : execSecondBoundary longHistory = .next longHistory.quietStart.boundary ∧
    longHistory.quietStart.boundary.scale.history.length = 9 := ⟨rfl, by decide +kernel⟩

/-- Refutes O27: nothing shortens a history of nine entries at a boundary where the only leap due is out of range, and the
statement's second part has it cut to eight. Its premises do not bound the history (R83). -/
theorem not_boundaryAppliesChange : ¬ Obligations.BoundaryAppliesChange := by
  rintro ⟨-, several, -⟩
  have fit : longHistory.recordsFit := by unfold State.recordsFit changesFit idsFit; decide +kernel
  have ordered : longHistory.recordsOrdered := List.pairwise_singleton ..
  obtain ⟨t, ht, -, history, -⟩ := several longHistory 86436 ⟨86437, 1, none⟩ rfl (fun _ => nofun) fit ordered rfl
    (by decide) rfl rfl rfl (by decide +kernel) (by decide +kernel) (by decide +kernel)
  obtain ⟨run, nine⟩ := longHistory_stays
  obtain rfl := Host.Outcome.next.inj (run.symm.trans ht)
  have eight : (lastN 8 _).length = 9 := history ▸ nine
  exact absurd eight (Nat.ne_of_lt (Nat.lt_succ_of_le (length_lastN_le 8 _)))

end Sys2Proof.Machine

namespace Sys2Proof.Machine

set_option Elab.async false

variable {s : State}

/-! ### The labels that stand after a boundary (R23) -/

/-- Whatever is due, SECOND_BOUNDARY ends with a boundary. -/
theorem secondBoundary_next (h : s.running = true) : ∃ u : State, exec .secondBoundary s = .next u.boundary := by
  show ∃ u : State, execSecondBoundary s = .next u.boundary
  unfold execSecondBoundary
  rw [if_pos h]
  split
  · exact ⟨_, rfl⟩
  · exact ⟨_, rfl⟩
  · exact ⟨_, rfl⟩

/-- What the boundary does after the Label Unit leaves everything that the labels are computed from. -/
theorem labels_end (w : State) : w.boundaryLabels.checkBackup.beginSecond.finish.latch.labels =
    w.boundaryLabels.checkBackup.beginSecond.finish.latch.labelled := rfl

theorem labels_boundary (s : State) : s.boundary.labels = s.boundary.labelled := by
  rw [boundary_eq]
  exact labels_end _

/-! ### Day and second (R23 to R25) -/

theorem labelled_day_scaled {n d : Nat} (hn : s.time.t = some n) (hd : s.scale.d = some d)
    (hi : s.scale.inserting = none) :
    s.labelled.day = (n - d) / 86400 ∧ s.labelled.second = (n - d) % 86400 ∧ s.labelled.inserting = false := by
  simp [State.labelled, State.dayAndSecond, State.showsInserting, hn, hd, hi, Config.dayLength]

theorem labelled_day_inserting {n d e : Nat} (hn : s.time.t = some n) (hd : s.scale.d = some d)
    (hi : s.scale.inserting = some e) :
    s.labelled.day = e - 1 ∧ s.labelled.second = 86400 ∧ s.labelled.inserting = true := by
  simp [State.labelled, State.dayAndSecond, State.showsInserting, State.status, hn, hd, hi, Config.dayLength]

theorem labelled_day_unknown (h : s.time.t = none ∨ s.scale.d = none) :
    s.labelled.day = 0 ∧ s.labelled.second = 0 ∧ s.labelled.inserting = false := by
  rcases h with h | h
  · simp [State.labelled, State.dayAndSecond, State.showsInserting, State.status, h]
  · cases ht : s.time.t <;> simp [State.labelled, State.dayAndSecond, State.showsInserting, State.status, h, ht]

/-! ### The next group (R26) -/

theorem nextGroup_of_none (h : s.armedGroups = []) : s.nextGroup = none := by
  unfold State.nextGroup
  rw [h]
  rfl

theorem nextGroup_of_least {g : NextGroup} (hg : g ∈ s.armedGroups)
    (least : ∀ x ∈ s.armedGroups, x ≠ g → g.affected < x.affected) : s.nextGroup = some g := by
  refine head_sortBy _ (fun a b => ?_) (fun a b c h k => ?_) hg fun x hx ne => ?_
  · simp only [decide_eq_true_eq]; omega
  · simp only [decide_eq_true_eq] at h k ⊢; omega
  · simpa using least x hx ne

theorem labelled_noGroup (h : s.armedGroups = []) :
    s.labelled.countdown = 0 ∧ s.labelled.tag = 0 ∧ s.labelled.kinds = ⟨false, false, false, false⟩ ∧
      s.labelled.rehearsal = false := by
  have next := nextGroup_of_none h
  refine ⟨?_, ?_, ?_, ?_⟩
  · cases ht : s.time.t <;> simp [State.labelled, State.countdown, next, ht]
  · simp [State.labelled, next]
  · simp [State.labelled, State.nextKinds, next]
  · simp [State.labelled, next]

theorem labelled_group {n : Nat} {g : NextGroup} (hn : s.time.t = some n) (next : s.nextGroup = some g) :
    s.labelled.countdown = min 65535 (g.affected - n) ∧ s.labelled.tag = g.tag ∧ s.labelled.rehearsal = g.rehearsal ∧
      (g.rehearsal = true → s.labelled.kinds = ⟨false, false, false, false⟩) ∧
      (g.rehearsal = false → s.labelled.kinds = s.kindsOf g.tag) := by
  refine ⟨?_, ?_, ?_, fun h => ?_, fun h => ?_⟩
  · simp [State.labelled, State.countdown, next, hn, Config.count16]
  · simp [State.labelled, next]
  · simp [State.labelled, next]
  · simp [State.labelled, State.nextKinds, next, h]
  · simp [State.labelled, State.nextKinds, next, h]

/-- R184: the kind numbers name the kinds. -/
theorem kindNumber_iff (c : Change) :
    (c.kindNumber = 0 ↔ ∃ e, c = .leap .insert e) ∧ (c.kindNumber = 1 ↔ ∃ e, c = .leap .delete e) ∧
      (c.kindNumber = 2 ↔ ∃ x, c = .baseline x) ∧ (c.kindNumber = 3 ↔ ∃ z o i, c = .shift z o i) := by
  cases c with
  | leap k e => cases k <;> simp [Change.kindNumber]
  | baseline x => simp [Change.kindNumber]
  | shift z o i => simp [Change.kindNumber]

/-- R26: each kind of a group is shown where one of its records has it. -/
theorem kindsOf_iff (s : State) (tag : Nat) :
    ((s.kindsOf tag).insert = true ↔ ∃ r ∈ s.members tag, ∃ e, r.change = .leap .insert e) ∧
    ((s.kindsOf tag).delete = true ↔ ∃ r ∈ s.members tag, ∃ e, r.change = .leap .delete e) ∧
    ((s.kindsOf tag).baseline = true ↔ ∃ r ∈ s.members tag, ∃ x, r.change = .baseline x) ∧
    ((s.kindsOf tag).shift = true ↔ ∃ r ∈ s.members tag, ∃ z o i, r.change = .shift z o i) := by
  simp only [State.kindsOf, List.any_eq_true, beq_iff_eq]
  refine ⟨?_, ?_, ?_, ?_⟩ <;> refine exists_congr fun r => and_congr_right fun _ => ?_
  · exact (kindNumber_iff r.change).1
  · exact (kindNumber_iff r.change).2.1
  · exact (kindNumber_iff r.change).2.2.1
  · exact (kindNumber_iff r.change).2.2.2

/-! ### D at the next boundary (R31) -/

/-- R92: D as the inserted second leaves it. -/
def State.dAfterInserting (s : State) : Option Nat :=
  if s.scale.inserting = none then s.scale.d else s.scale.d.map (· + 1)

/-- R31: the record changes D where it is applied. -/
def Record.turnsD (r : Record) : Bool := r.change.isBaseline || r.change.kindNumber == 1

/-- R31: the armed records due at the boundary after `n` that change D there. -/
def State.turning (s : State) (n : Nat) : List Record :=
  s.records.filter fun r => r.state == .armed && r.affected == some (n + 1) && r.turnsD

theorem foresee_idle {r : Record} (h : r.turnsD = false) (d : Option Nat) : r.foresee d = d := by
  unfold Record.foresee
  cases hc : r.change with
  | leap k e => cases k <;> simp_all [Record.turnsD, Change.kindNumber]
  | baseline x => simp [Record.turnsD, hc, Change.isBaseline] at h
  | shift z o i => rfl

theorem nextD_unknown (h : s.time.t = none) : s.nextD = s.dAfterInserting := by
  cases hi : s.scale.inserting <;> simp [State.nextD, State.dAfterInserting, h, hi]

/-- R31: only the records that change D count. -/
theorem nextD_eq {n : Nat} (h : s.time.t = some n) :
    s.nextD = (s.turning n).foldl (fun d r => r.foresee d) s.dAfterInserting := by
  have all : s.nextD = (s.records.filter fun r => r.state == .armed && r.affected == some (n + 1)).foldl
      (fun d r => r.foresee d) s.dAfterInserting := by
    cases hi : s.scale.inserting <;> simp [State.nextD, State.dAfterInserting, h, hi]
  have split : s.turning n =
      (s.records.filter fun r => r.state == .armed && r.affected == some (n + 1)).filter Record.turnsD := by
    rw [List.filter_filter]
    exact List.filter_congr fun r _ => Bool.and_comm _ _
  rw [all, split]
  generalize (s.records.filter fun r => r.state == .armed && r.affected == some (n + 1)) = rs
  rw [List.foldl_filter]
  congr 1
  funext d r
  cases ht : r.turnsD
  · simp [foresee_idle ht]
  · rfl

theorem isSome_foresee {r : Record} {d : Option Nat} (h : d.isSome = true) : (r.foresee d).isSome = true := by
  unfold Record.foresee
  split <;> simp [h]

/-- R31: a known D stays known. -/
theorem isSome_nextD {n : Nat} (hn : s.time.t = some n) (hd : s.scale.d ≠ none) : s.nextD.isSome = true := by
  have start : s.dAfterInserting.isSome = true := by
    unfold State.dAfterInserting
    split <;> simpa [Option.isSome_iff_ne_none] using hd
  rw [nextD_eq hn]
  generalize s.turning n = rs
  generalize s.dAfterInserting = d at start
  induction rs generalizing d with
  | nil => exact start
  | cons r rs ih => exact ih _ (isSome_foresee start)

/-! ### Offset pairs (R31, R32) -/

/-- R32: the record shows a window that contains boundary `m`. -/
def Record.isOpen (m : Nat) (r : Record) : Bool :=
  r.leapBusy && r.window.any fun w => decide (w.start ≤ m ∧ m < w.stop)

theorem smearPair_isOpen {m : Nat} {r : Record} (h : r.isOpen m = true) {w : Window} (hw : r.window = some w) :
    ∃ k e, r.change = .leap k e ∧ r.smearPair m = some (w.pair k m) := by
  simp only [Record.isOpen, hw, Option.any_some, Bool.and_eq_true, decide_eq_true_eq] at h
  obtain ⟨busy, start, stop⟩ := h
  cases hc : r.change with
  | leap k e => exact ⟨k, e, rfl, by simp [Record.smearPair, hc, hw, busy, Window.contains, start, stop]⟩
  | _ => simp [Record.leapBusy, hc, Change.isLeap] at busy

theorem smearPair_closed {m : Nat} {r : Record} (h : r.isOpen m = false) : r.smearPair m = none := by
  unfold Record.smearPair
  split
  · next k e w hc hw =>
    refine if_neg fun hopen => ?_
    simp only [Window.contains, Bool.and_eq_true, decide_eq_true_eq] at hopen
    obtain ⟨busy, start, stop⟩ := hopen
    simp [Record.isOpen, hw, busy, start, stop] at h
  · rfl

theorem findSome?_filter_of_none {α β : Type} {f : α → Option β} {p : α → Bool}
    (h : ∀ x, p x = false → f x = none) (l : List α) : (l.filter p).findSome? f = l.findSome? f := by
  induction l with
  | nil => rfl
  | cons x xs ih =>
    cases hp : p x
    · simp [hp, ih, h x hp]
    · simp only [List.filter_cons, hp, if_true, List.findSome?_cons, ih]

/-- R31: a STEP position, and a SMEAR position without an open window, shows the D of the boundary to come. -/
theorem pairOf_eq_stepPair {p : Pos} (h : (s.pos p).mode = .step ∨
    ∀ n, s.time.t = some n → s.records.filter (Record.isOpen (nextT n)) = []) : s.pairOf p = s.stepPair := by
  have smear (closed : ∀ n, s.time.t = some n → s.records.filter (Record.isOpen (nextT n)) = []) :
      s.smearPair = s.stepPair := by
    unfold State.smearPair
    split
    · next n _ hn _ =>
      rw [← findSome?_filter_of_none (fun r => smearPair_closed (m := nextT n) (r := r)), closed n hn]
      rfl
    · rfl
  unfold State.pairOf
  cases hm : (s.pos p).mode with
  | step => rfl
  | smear => exact smear (h.resolve_left (by simp [hm]))

/-- R32: a SMEAR position shows the pair of the only open window. -/
theorem pairOf_isOpen {p : Pos} {n : Nat} {r : Record} {w : Window} (hn : s.time.t = some n)
    (hm : (s.pos p).mode = .smear) (hd : s.scale.d ≠ none)
    (one : s.records.filter (Record.isOpen (nextT n)) = [r]) (hw : r.window = some w) :
    ∃ k e, r.change = .leap k e ∧ s.pairOf p = w.pair k (nextT n) := by
  have mem : r ∈ s.records.filter (Record.isOpen (nextT n)) := by simp [one]
  obtain ⟨k, e, change, pair⟩ := smearPair_isOpen (List.mem_filter.mp mem).2 hw
  obtain ⟨d, hd'⟩ := Option.isSome_iff_exists.mp (isSome_nextD hn hd)
  refine ⟨k, e, change, ?_⟩
  unfold State.pairOf State.smearPair
  simp only [hm, hn, hd']
  rw [← findSome?_filter_of_none (fun r => smearPair_closed (m := nextT n) (r := r)), one]
  simp [pair]

/-- R32: the pair of a window, by the kind of its leap. -/
theorem pair_eq (w : Window) (k : LeapKind) (e m : Nat) : w.pair k m =
    if (Change.leap k e).kindNumber = 0 then
      (if w.progress m < 10 ^ 9 then ⟨w.dOld, w.progress m⟩ else ⟨w.dOld + 1, 0⟩)
    else if w.progress m = 0 then ⟨w.dOld, 0⟩ else ⟨w.dOld - 1, 10 ^ 9 - w.progress m⟩ := by
  cases k <;> simp [Window.pair, Change.kindNumber]

/-- R31: the pair of a STEP position where one record changes D. -/
theorem stepPair_turning {n : Nat} {r : Record} (hn : s.time.t = some n) (one : s.turning n = [r])
    (hi : s.scale.inserting = none) :
    (∀ x, r.change = .baseline x → s.stepPair = ⟨x, 0⟩) ∧
    (∀ d, r.change.kindNumber = 1 → s.scale.d = some (d + 1) → s.stepPair = ⟨d, 0⟩) ∧
    (r.change.kindNumber = 1 → s.scale.d = some 0 → s.stepPair = ⟨0, 0⟩) := by
  have next : s.nextD = r.foresee s.scale.d := by
    rw [nextD_eq hn, one]
    simp [State.dAfterInserting, hi]
  refine ⟨fun x hc => ?_, fun d hk hd => ?_, fun hk hd => ?_⟩
  · simp [State.stepPair, next, Record.foresee, hc]
  · obtain ⟨e, hc⟩ := (kindNumber_iff _).2.1.mp hk
    simp [State.stepPair, next, Record.foresee, hc, hd, leapInRange]
  · obtain ⟨e, hc⟩ := (kindNumber_iff _).2.1.mp hk
    simp [State.stepPair, next, Record.foresee, hc, hd, leapInRange]

/-- Settles O24: the labels are those of the state that the boundary leaves, and each clause reads one of their parts. -/
theorem boundaryLabelsSecond : Obligations.BoundaryLabelsSecond := by
  intro s running
  obtain ⟨u, next⟩ := secondBoundary_next running
  refine ⟨u.boundary, next, ?_⟩
  rw [labels_boundary]
  generalize u.boundary = t
  have pairs (p : Pos) : t.labelled.pairs.get p = t.pairOf p := Tab.get_build _ p
  simp only [pairs]
  refine ⟨fun n d hn hd hi => labelled_day_scaled hn hd hi, fun n d e hn hd hi => labelled_day_inserting hn hd hi,
    labelled_day_unknown, labelled_noGroup, fun n hn g hg least => ?_, fun hn hi p => ?_, fun n hn => ?_⟩
  · obtain ⟨countdown, tag, rehearsal, clear, kinds⟩ := labelled_group hn (nextGroup_of_least hg least)
    refine ⟨countdown, tag, rehearsal, clear, fun h => ?_⟩
    rw [kinds h]
    exact kindsOf_iff t g.tag
  · rw [pairOf_eq_stepPair (.inr fun n h => by rw [hn] at h; cases h), State.stepPair, nextD_unknown hn]
    simp [State.dAfterInserting, hi]
  · refine ⟨fun p hm hd r w one hw => ?_, fun p h => ?_⟩
    · obtain ⟨k, e, change, pair⟩ := pairOf_isOpen hn hm hd one hw
      rw [pair, change]
      exact pair_eq w k e _
    · have step : t.pairOf p = t.stepPair := pairOf_eq_stepPair (h.imp_right fun closed m hm => by
        obtain rfl := Option.some.inj (hn.symm.trans hm)
        exact closed)
      rw [step]
      refine ⟨fun none => ?_, fun r one hi => stepPair_turning hn one hi⟩
      have next : t.nextD = t.dAfterInserting := by rw [nextD_eq hn, show t.turning n = [] from none]; rfl
      rw [State.stepPair, next]
      rfl

end Sys2Proof.Machine

namespace Sys2Proof.Machine

set_option Elab.async false

variable {P : Prop} {s t : State}

/-! ### One entry of the Source Table, and its trailing mark -/

theorem Unchanged.source_eq {but : List Block} (h : Unchanged but s t) (hb : Block.sources ∉ but := by decide)
    (i : Fin 16) : t.source i = s.source i := by
  unfold State.source
  rw [show t.sources = s.sources from h .sources hb]

@[simp] theorem source_unmark (i j : Fin 16) (s : State) : (s.unmark j).source i = s.source i := rfl

@[simp] theorem marks_unmark (i j : Fin 16) (s : State) :
    (s.unmark j).sched.marks.get i = if j = i then false else s.sched.marks.get i := Tab.get_put s.sched.marks j i false

@[simp] theorem source_noteSource (i j : Fin 16) (s : State) : (s.noteSource j).source i = s.source i := rfl

@[simp] theorem sched_noteSource (j : Fin 16) (s : State) : (s.noteSource j).sched = s.sched := rfl

/-- R60: the rewriting of entry `e` as `new` in second `n` keeps what the trailing mark stands for. -/
def Source.keepsMark (n : Option Nat) (e new : Source) : Bool := e.effective n = new.effective n && e.key = new.key

theorem source_putSource (i j : Fin 16) (new : Source) (s : State) :
    (s.putSource j new).source i = if j = i then new else s.source i := by
  unfold State.putSource
  dsimp only
  split <;> split <;> simp

theorem marks_putSource (i j : Fin 16) (new : Source) (s : State) : (s.putSource j new).sched.marks.get i =
    if j = i then s.sched.marks.get i && (s.source i).keepsMark s.time.t new else s.sched.marks.get i := by
  have same (c : Prop) [Decidable c] (u : State) : (if c then u.noteSource j else u).sched.marks = u.sched.marks := by
    split <;> rfl
  unfold State.putSource
  dsimp only
  rw [same]
  by_cases hj : j = i
  · subst hj
    cases hk : (s.source j).keepsMark s.time.t new <;> unfold Source.keepsMark at hk <;> simp [hk]
  · split <;> simp [hj]

/-! ### An entry at a boundary (R39, R42, R47, R60) -/

/-- R39, R42: what a boundary makes of an entry in use. -/
def State.nextSource (s : State) (rekey : Bool) (e : Source) : Source :=
  let aged := e.tick.age (s.value Config.stalenessLimit)
  if rekey then aged.revouch (s.value Config.persistence) else aged

/-- R47, R60: what a boundary makes of an entry's trailing mark. -/
def State.nextMark (s : State) (old : Option Nat) (rekey : Bool) (e : Source) (mark : Bool) : Bool :=
  mark && e.spent old == e.spent s.time.t && e.keepsMark s.time.t (s.nextSource rekey e)

theorem entry_boundarySource (old : Option Nat) (rekey : Bool) (i j : Fin 16) (s : State) :
    (s.boundarySource old rekey j).source i =
      (if j = i ∧ (s.source i).state ≠ .free then s.nextSource rekey (s.source i) else s.source i) ∧
    (s.boundarySource old rekey j).sched.marks.get i =
      if j = i ∧ (s.source i).state ≠ .free then s.nextMark old rekey (s.source i) (s.sched.marks.get i)
      else s.sched.marks.get i := by
  unfold State.boundarySource
  dsimp only
  by_cases free : (s.source j).state = .free
  · rw [if_pos free]
    constructor <;> rw [if_neg] <;> rintro ⟨rfl, used⟩ <;> exact used free
  rw [if_neg free]
  generalize hu : (if ((s.source j).spent old != (s.source j).spent s.time.t) = true then s.unmark j else s) = u
  have uSource (i : Fin 16) : u.source i = s.source i := by rw [← hu]; split <;> simp
  have uTime : u.time = s.time := by rw [← hu]; split <;> rfl
  have uMark : u.sched.marks.get i =
      if j = i then s.sched.marks.get i && (s.source i).spent old == (s.source i).spent s.time.t
      else s.sched.marks.get i := by
    rw [← hu]
    by_cases hj : j = i
    · subst hj
      by_cases turned : (s.source j).spent old = (s.source j).spent s.time.t <;> simp [turned]
    · split <;> simp [hj]
  have noted (c : Prop) [Decidable c] (v : State) :
      (if c then v.noteSource j else v).source i = v.source i ∧ (if c then v.noteSource j else v).sched = v.sched := by
    split <;> exact ⟨rfl, rfl⟩
  have uNext : u.nextSource rekey (s.source j) = s.nextSource rekey (s.source j) := by
    have values (k : Config.Param) : u.value k = s.value k := by rw [← hu]; split <;> rfl
    simp only [State.nextSource, values]
  change ((if _ then (u.putSource j (u.nextSource rekey (s.source j))).noteSource j
      else u.putSource j (u.nextSource rekey (s.source j))).source i = _) ∧
    ((if _ then (u.putSource j (u.nextSource rekey (s.source j))).noteSource j
      else u.putSource j (u.nextSource rekey (s.source j))).sched.marks.get i = _)
  rw [(noted _ _).1, (noted _ _).2, source_putSource, marks_putSource, uNext, uSource, uTime, uMark]
  by_cases hj : j = i
  · subst hj
    simp [free, State.nextMark]
  · simp [hj]

theorem mem_allEntries : ∀ i : Fin 16, i ∈ allEntries := by decide

/-- The entries of a list worked one after the other, each once. -/
theorem entry_foldSources (old : Option Nat) (rekey : Bool) (i : Fin 16) {l : List (Fin 16)} (distinct : l.Nodup)
    (s : State) :
    (l.foldl (fun s j => s.boundarySource old rekey j) s).source i =
      (if i ∈ l ∧ (s.source i).state ≠ .free then s.nextSource rekey (s.source i) else s.source i) ∧
    (l.foldl (fun s j => s.boundarySource old rekey j) s).sched.marks.get i =
      if i ∈ l ∧ (s.source i).state ≠ .free then s.nextMark old rekey (s.source i) (s.sched.marks.get i)
      else s.sched.marks.get i := by
  induction l generalizing s with
  | nil => simp
  | cons j l ih =>
    obtain ⟨fresh, distinct⟩ := List.nodup_cons.mp distinct
    obtain ⟨source, mark⟩ := ih distinct (s.boundarySource old rekey j)
    obtain ⟨source', mark'⟩ := entry_boundarySource old rekey i j s
    have frame := frame_boundarySource old rekey j s
    have next (e : Source) : (s.boundarySource old rekey j).nextSource rekey e = s.nextSource rekey e := by
      unfold State.nextSource State.value
      rw [show (s.boundarySource old rekey j).settings = s.settings from frame .settings (by decide)]
    have nextMark (e : Source) (m : Bool) :
        (s.boundarySource old rekey j).nextMark old rekey e m = s.nextMark old rekey e m := by
      unfold State.nextMark
      rw [next, show (s.boundarySource old rekey j).time = s.time from frame .time (by decide)]
    rw [List.foldl_cons, source, mark, next, nextMark, source', mark']
    by_cases hj : j = i
    · subst hj
      simp [fresh]
    · have : i ∈ j :: l ↔ i ∈ l := by simp [Ne.symm hj]
      simp only [hj, false_and, if_false, this, and_self]

theorem nextSource_key (rekey : Bool) (e : Source) : (s.nextSource rekey e).key = e.key := by
  have tick : e.tick.key = e.key := rfl
  have age (n : Nat) (e : Source) : (e.age n).key = e.key := by unfold Source.age; split <;> rfl
  have revouch (n : Nat) (e : Source) : (e.revouch n).key = e.key := by unfold Source.revouch; split <;> rfl
  unfold State.nextSource
  dsimp only
  split <;> simp [age, revouch, tick]

/-- R47, R60: an entry that keeps its vouched view keeps its mark, unless the view becomes spent, or not spent again. -/
theorem nextMark_of_vouched {old : Option Nat} {rekey : Bool} {e : Source} {v : View} {mark : Bool}
    (h : e.vouched = some v) (k : (s.nextSource rekey e).vouched = some v) :
    s.nextMark old rekey e mark = if v.spent s.time.t = v.spent old then mark else false := by
  have kept : e.keepsMark s.time.t (s.nextSource rekey e) = true := by
    simp [Source.keepsMark, Source.effective, h, k, nextSource_key]
  unfold State.nextMark
  rw [kept]
  by_cases spent : v.spent s.time.t = v.spent old
  · simp [Source.spent, h, spent]
  · simp [Source.spent, h, spent, Ne.symm spent]

/-! ### The boundary up to the Source Table's work -/

theorem frame_sourced (s : State) :
    Unchanged [.moment, .time, .settings, .roster, .lanes, .rehearsal, .sources, .sched] s s.sourced :=
  (((frame_nextMoment s).mono.trans (frame_boundaryInputs _).mono).trans (frame_boundaryMove _ _ _).mono).trans
    (frame_boundarySources _ _ _).mono

/-- R2: the Source Table is worked in the new second. -/
theorem time_sourced (s : State) : s.sourced.time = s.time.advance := by
  have move := frame_boundaryMove s.time.t s.time.retimes s.nextMoment.boundaryInputs .time (by decide)
  exact (frame_boundarySources _ _ _ .time (by decide)).trans move

theorem marks_sourced {i : Fin 16} {v : View} (used : (s.source i).state ≠ .free)
    (h : (s.source i).vouched = some v) (k : (s.sourced.source i).vouched = some v) :
    s.sourced.sched.marks.get i = if v.spent s.sourced.time.t = v.spent s.time.t then s.sched.marks.get i else false := by
  rw [time_sourced]
  unfold State.sourced at k ⊢
  dsimp only at k ⊢
  generalize hr : s.nextMoment.boundaryInputs.boundaryMove s.time.t s.time.retimes = r at k ⊢
  have frame : Unchanged [.moment, .time, .settings, .roster, .lanes, .rehearsal] s r := hr ▸
    ((frame_nextMoment s).mono.trans (frame_boundaryInputs _).mono).trans (frame_boundaryMove _ _ _).mono
  have time : r.time = s.time.advance := hr ▸ frame_boundaryMove _ _ s.nextMoment.boundaryInputs .time (by decide)
  have source : r.source i = s.source i := frame.source_eq (by decide) i
  have sched : r.sched = s.sched := frame .sched (by decide)
  obtain ⟨next, mark⟩ := entry_foldSources s.time.t
    (decide (r.value Config.persistence ≠ s.value Config.persistence)) i (show allEntries.Nodup by decide) r
  rw [if_pos ⟨mem_allEntries i, source ▸ used⟩] at next mark
  unfold State.boundarySources at k ⊢
  rw [next] at k
  rw [mark, nextMark_of_vouched (source ▸ h) k, time, sched]

end Sys2Proof.Machine

namespace Sys2Proof.Machine

set_option Elab.async false

variable {P : Prop} {s t : State}

/-! ### The boundary after the Source Table's work -/

/-- R84: the boundary's work after step 5 touches neither T nor the Source Table. -/
theorem frame_worked (s : State) :
    Unchanged [.rules, .sched, .scale, .lanes, .loader, .rehearsal, .roster] s.rescaled s.worked := by
  refine Unchanged.trans ?_ (frame_boundaryRoster _ _).mono
  refine Unchanged.trans ?_ (frame_boundaryArm _ _).mono
  refine Unchanged.trans ?_ (frame_tally _).mono
  exact (frame_boundaryVerify _).mono.trans (frame_drawPass _ _).mono

/-- What comes after the Roster leaves T and the Source Table. -/
theorem boundary_end (w : State) :
    w.boundaryLabels.checkBackup.beginSecond.finish.latch.time.t = w.time.t ∧
    w.boundaryLabels.checkBackup.beginSecond.finish.latch.sources = w.sources := ⟨rfl, rfl⟩

theorem boundary_of_rescaled (s : State) :
    s.boundary.time.t = s.rescaled.time.t ∧ s.boundary.sources = s.rescaled.sources := by
  obtain ⟨time, sources⟩ := boundary_end s.worked
  have frame := frame_worked s
  rw [boundary_eq, time, sources, show s.worked.time = s.rescaled.time from frame .time (by decide)]
  exact ⟨rfl, frame .sources (by decide)⟩

/-- R91: nothing is applied where no group is due. -/
theorem boundaryApply_idle {retime : Bool} (idle : ∀ g ∈ s.scale.groups, ∀ n, s.time.t = some n → g.affected ≠ n) :
    Unchanged [.lanes, .rehearsal] s (s.boundaryApply retime) := by
  unfold State.boundaryApply
  split
  · next n hn =>
    have none : (s.scale.groups.find? fun g => g.affected == n) = .none :=
      List.find?_eq_none.mpr fun g hg => by simpa using idle g hg n hn
    rw [none]
    exact frame_completeRehearsal n s
  · exact Unchanged.refl _ s

/-! ### The end of an inserted second (R92) -/

/-- R92: INSERTING clears and D is raised by one. -/
def State.endInserted (d : Nat) (s : State) : State :=
  State.setD (d + 1) { s with scale := { s.scale with inserting := none } }

theorem boundaryInserted_eq {d e : Nat} (hi : s.scale.inserting = some e) (hd : s.scale.d = some d) :
    s.boundaryInserted = s.endInserted d := by
  simp only [State.boundaryInserted, State.endInserted, hi, hd]

theorem scale_endInserted (d : Nat) (s : State) :
    (s.endInserted d).scale = { s.scale with inserting := none, d := some (d + 1) } := scale_setD _ _

theorem frame_endInserted (d : Nat) (s : State) : Unchanged [.scale, .sched] s (s.endInserted d) :=
  (frame_withScale _ s).mono.trans (frame_setD _ _).mono

theorem keeps_endInserted (d : Nat) (s : State) : Keeps s (s.endInserted d) := by
  unfold State.endInserted
  exact Keeps.trans Keeps.same (keeps_setD _ _)

/-- R60: every entry that reads the old D is marked, and no other mark is touched. -/
theorem marks_endInserted {d : Nat} (hd : s.scale.d = some d) (i : Fin 16) :
    (s.endInserted d).sched.marks.get i =
      (s.sched.marks.get i || decide (((s.source i).effective s.time.t).map EffView.ds = some d)) := by
  have other : d ≠ d + 1 := by omega
  unfold State.endInserted State.setD
  simp only [hd, other, if_false]
  exact Tab.get_build _ i

section
variable {d e : Nat} (clear : s.scale.clearPending = false) (hi : s.scale.inserting = some e) (hd : s.scale.d = some d)
  (idle : ∀ g ∈ s.scale.groups, ∀ n, s.time.newT = some n → g.affected ≠ n)

include clear hi hd idle

/-- R84: after step 2 the boundary applies nothing, so that steps 3 to 5 leave D, G, the history and the marks. -/
theorem rescaled_of_endInserted : Steady P (s.sourced.endInserted d) s.rescaled ∧
    Unchanged [.scale, .sched, .lanes, .rehearsal] (s.sourced.endInserted d) s.rescaled := by
  have scale : s.sourced.scale = s.scale := frame_sourced s .scale (by decide)
  have start : s.sourced.boundaryClear.boundaryInserted = s.sourced.endInserted d := by
    have kept : s.sourced.boundaryClear = s.sourced := by simp [State.boundaryClear, scale, clear]
    rw [kept, boundaryInserted_eq (e := e) (by rw [scale, hi]) (by rw [scale, hd])]
  unfold State.rescaled State.boundaryScale
  rw [start]
  generalize hb : s.sourced.endInserted d = b
  have frame : Unchanged [.scale, .sched] b b.boundaryProvisional.boundarySettling :=
    (frame_boundaryProvisional b).mono.trans (frame_boundarySettling _).mono
  have time : b.boundaryProvisional.boundarySettling.time = s.time.advance := by
    rw [show _ = b.time from frame .time (by decide), ← hb,
      show _ = s.sourced.time from frame_endInserted d s.sourced .time (by decide), time_sourced]
  have groups : b.boundaryProvisional.boundarySettling.scale.groups = s.scale.groups := by
    have settling := frame_boundarySettling b.boundaryProvisional .scale (by decide)
    have provisional : b.boundaryProvisional.scale.groups = b.scale.groups := by
      unfold State.boundaryProvisional; split <;> rfl
    rw [show _ = b.boundaryProvisional.scale from settling, provisional, ← hb, scale_endInserted, scale]
  have apply := boundaryApply_idle (s := b.boundaryProvisional.boundarySettling) (retime := s.time.retimes)
    (by rw [groups, time]; exact idle)
  exact ⟨((steady_boundaryProvisional b).trans (steady_boundarySettling _)).trans apply.steady,
    frame.mono.trans apply.mono⟩

/-- R47, R60: the trailing marks after the boundary. -/
theorem marksFollow_endInserted : MarksFollow (some d) s s.boundary := by
  obtain ⟨steady, frame⟩ := rescaled_of_endInserted (P := True) clear hi hd idle
  obtain ⟨time, sources⟩ := boundary_of_rescaled s
  have ended := frame_endInserted d s.sourced
  have sources' : s.boundary.sources = s.sourced.sources := by
    rw [sources, show _ = (s.sourced.endInserted d).sources from frame .sources (by decide)]
    exact ended .sources (by decide)
  have time' : s.boundary.time.t = s.sourced.time.t := by
    rw [time, show _ = (s.sourced.endInserted d).time from frame .time (by decide)]
    exact congrArg TimeBase.t (ended .time (by decide))
  have source (i : Fin 16) : s.boundary.source i = s.sourced.source i := by unfold State.source; rw [sources']
  have d' : s.sourced.scale.d = some d := by rw [show _ = s.scale from frame_sourced s .scale (by decide), hd]
  intro i v hv
  rw [source] at hv
  rw [(steady.trans (steady_boundary s)).marks, marks_endInserted d', time', Source.effective, hv]
  constructor
  · intro reads
    simp [Option.some.inj reads]
  · intro other same used
    have reads : (v.effective s.sourced.time.t).ds ≠ d := fun e => other (congrArg some e)
    rw [marks_sourced used same hv]
    simp [reads]

/-- R92: the boundary that ends an inserted second. -/
theorem boundary_endInserted :
    s.boundary.scale.d = some (d + 1) ∧ s.boundary.scale.inserting = none ∧ s.boundary.scale.g = s.scale.g ∧
      s.boundary.scale.history = s.scale.history ∧ (s.recordsFit → s.boundary.leapsReckoned) := by
  obtain ⟨steady, -⟩ := rescaled_of_endInserted (P := True) clear hi hd idle
  have all := steady.trans (steady_boundary s)
  have scale : s.sourced.scale = s.scale := frame_sourced s .scale (by decide)
  refine ⟨?_, ?_, ?_, ?_, fun fit => all.reckoned trivial ?_ (leapsReckoned_setD _ _)⟩
  · rw [all.d, scale_endInserted]
  · rw [all.inserting, scale_endInserted]
  · rw [all.g, scale_endInserted, scale]
  · rw [all.history, scale_endInserted, scale]
  · exact ((keeps_sourced s).trans (keeps_endInserted d _)).fit fit

end

/-! ### The quiet frames before a boundary -/

/-- R90: a roll call writes its result into groups, and nothing else into the scale register. -/
theorem scale_rollGroup (tag : Nat) (s : State) : (s.rollGroup tag).scale =
    { s.scale with groups := s.scale.groups.map fun g =>
        if g.tag == tag then { g with roll := some (.build 12 fun p => (s.pos p).rollMark tag) } else g } := by
  unfold State.rollGroup
  dsimp only
  refine Unchanged.foldl (but := [.roster, .lanes]) _ (fun s p => ?_) _ _ .scale (by decide)
  exact Unchanged.ite _ ((frame_setPos p _ s).mono.trans (frame_noteSlot p _).mono) (Unchanged.refl _ s)

theorem groups_rollGroup (tag : Nat) (s : State) : (s.rollGroup tag).scale.clearPending = s.scale.clearPending ∧
    (s.rollGroup tag).scale.groups.map Group.affected = s.scale.groups.map Group.affected := by
  rw [scale_rollGroup]
  refine ⟨rfl, ?_⟩
  rw [List.map_map]
  refine List.map_congr_left fun g _ => ?_
  simp only [Function.comp]
  split <;> rfl

theorem scale_rollCalls (s : State) : s.rollCalls.scale.clearPending = s.scale.clearPending ∧
    s.rollCalls.scale.groups.map Group.affected = s.scale.groups.map Group.affected := by
  have all (l : List Nat) (s : State) : (l.foldl (fun a k => a.rollGroup k) s).scale.clearPending = s.scale.clearPending ∧
      (l.foldl (fun a k => a.rollGroup k) s).scale.groups.map Group.affected = s.scale.groups.map Group.affected := by
    induction l generalizing s with
    | nil => exact ⟨rfl, rfl⟩
    | cons k l ih =>
      obtain ⟨clear, groups⟩ := ih (s.rollGroup k)
      obtain ⟨clear', groups'⟩ := groups_rollGroup k s
      simp only [List.foldl_cons]
      exact ⟨clear.trans clear', groups.trans groups'⟩
  unfold State.rollCalls
  split
  · exact ⟨rfl, rfl⟩
  · dsimp only
    generalize hu : List.foldl _ s _ = u
    rw [show u.rollRehearsal.scale = u.scale from frame_rollRehearsal u .scale (by decide), ← hu]
    exact all _ s

theorem scale_quietStart (s : State) : s.quietStart.scale.clearPending = s.scale.clearPending ∧
    s.quietStart.scale.groups.map Group.affected = s.scale.groups.map Group.affected := by
  have frame : Unchanged [.roster, .lanes, .store] s.nextMoment.rollCalls s.quietStart :=
    (frame_resetLanes _).mono.trans (frame_finish _).mono
  rw [show s.quietStart.scale = s.nextMoment.rollCalls.scale from frame .scale (by decide)]
  exact scale_rollCalls s.nextMoment

/-- Where no realignment is due, SECOND_BOUNDARY works the boundary of a state with the time, the sources and, but for roll
calls, the scale and the schedule of the one at hand. -/
theorem secondBoundary_from (running : s.running = true) (due : ∀ p, s.time.due ≠ .realign p) :
    ∃ u : State, exec .secondBoundary s = .next u.boundary ∧ Steady True s u ∧ u.time = s.time ∧ u.sources = s.sources ∧
      u.scale.clearPending = s.scale.clearPending ∧
      u.scale.groups.map Group.affected = s.scale.groups.map Group.affected := by
  have run : exec .secondBoundary s = execSecondBoundary s := rfl
  unfold execSecondBoundary at run
  rw [if_pos running] at run
  cases h : s.time.due with
  | realign p => exact absurd h (due p)
  | second => exact ⟨s, by rw [run, h], Steady.refl s, rfl, rfl, rfl, rfl⟩
  | nothing =>
    obtain ⟨clear, groups⟩ := scale_quietStart s
    have frame := frame_quietStart s
    exact ⟨s.quietStart, by rw [run, h], steady_quietStart s, frame .time (by decide), frame .sources (by decide),
      clear, groups⟩

/-- Settles O26: step 2 raises D, reckons the leaps and marks the entries; nothing is applied, and the rest of the boundary keeps
all that (`Steady`). -/
theorem boundaryEndsInsertedSecond : Obligations.BoundaryEndsInsertedSecond := by
  intro s d e running due clear hi hd idle
  obtain ⟨u, next, steady, time, sources, clear', groups⟩ := secondBoundary_from running due
  have idle' : ∀ g ∈ u.scale.groups, ∀ n, u.time.newT = some n → g.affected ≠ n := by
    intro g hg n hn
    obtain ⟨x, hx, same⟩ := List.mem_map.mp (groups ▸ List.mem_map_of_mem (f := Group.affected) hg)
    rw [← same]
    exact idle x hx n (time ▸ hn)
  have uClear := clear'.trans clear
  have uInserting := steady.inserting.trans hi
  have uD := steady.d.trans hd
  obtain ⟨d', inserting, g, history, reckoned⟩ := boundary_endInserted uClear uInserting uD idle'
  refine ⟨u.boundary, next, d', inserting, g.trans steady.g, history.trans steady.history, ?_,
    fun fit => reckoned (steady.fit trivial fit)⟩
  have marks := marksFollow_endInserted uClear uInserting uD idle'
  unfold MarksFollow State.source at marks ⊢
  rwa [sources, time, steady.marks] at marks

end Sys2Proof.Machine

namespace Sys2Proof.Machine

set_option Elab.async false

/-! ### What an operation upholds at EMPTY positions, of the tags and of the keys -/

/-- R42, R44: the entry is in LISTENING or VOUCHING. -/
def Source.isLive (e : Source) : Prop := e.state = .listening ∨ e.state = .vouching

/-- R44, R140, R162: position `p` has the lane of start-up, no rule set claim, and no live source entry. -/
def State.clearAt (s : State) (p : Pos) : Prop :=
  s.lane p = .initial ∧ (∀ c ∈ s.loader.claimer, ctlPos c ≠ p) ∧
  ∀ i, ∀ k ∈ (s.source i).key, k.pos = p → ¬ (s.source i).isLive

theorem State.emptyIsClear_iff (s : State) : s.emptyIsClear ↔
    (∀ p, s.occupied p = false → s.clearAt p ∧ (s.pos p).role = .none ∧ s.holdsLead p = false) ∧
    ∀ p : Pos, 2 ≤ p.val → (s.pos p).role = .none := by
  simp only [State.emptyIsClear, State.clearAt, Source.isLive, not_or]
  refine and_congr_left fun _ => forall_congr' fun p => forall_congr' fun _ => ?_
  tauto

/-- The operation leaves who is EMPTY, who has which role and who leads; it leaves an EMPTY position clear; and it keeps the
tags of the pool and the keys of the Source Table distinct. -/
structure Upholds (s t : State) : Prop where
  occupied : ∀ p, t.occupied p = s.occupied p
  role : ∀ p, (t.pos p).role = (s.pos p).role
  holder : t.time.holder = s.time.holder
  clear : ∀ p, s.occupied p = false → s.clearAt p → t.clearAt p
  tags : s.tagsDistinct → t.tagsDistinct
  keys : s.keysDistinct → t.keysDistinct

section
variable {s t u v : State}

theorem Upholds.trans (h : Upholds s t) (k : Upholds t u) : Upholds s u where
  occupied p := (k.occupied p).trans (h.occupied p)
  role p := (k.role p).trans (h.role p)
  holder := k.holder.trans h.holder
  clear p e c := k.clear p ((h.occupied p).trans e) (h.clear p e c)
  tags := k.tags ∘ h.tags
  keys := k.keys ∘ h.keys

theorem Upholds.ite {c : Prop} [Decidable c] (h : Upholds s t) (k : Upholds s u) : Upholds s (if c then t else u) := by
  split <;> assumption

theorem Upholds.emptyIsClear (h : Upholds s t) (e : s.emptyIsClear) : t.emptyIsClear := by
  rw [State.emptyIsClear_iff] at e ⊢
  obtain ⟨empty, line⟩ := e
  refine ⟨fun p hp => ?_, fun p hp => (h.role p).trans (line p hp)⟩
  rw [h.occupied] at hp
  obtain ⟨clear, role, lead⟩ := empty p hp
  refine ⟨h.clear p hp clear, (h.role p).trans role, ?_⟩
  unfold State.holdsLead at lead ⊢
  rwa [h.holder]

/-- An operation that leaves the Roster, the lead, the load and the sources, and the lanes of EMPTY positions. -/
theorem Unchanged.upholdsBut {but : List Block} (h : Unchanged but s t)
    (lanes : ∀ p, s.occupied p = false → s.lane p = .initial → t.lane p = .initial)
    (tags : s.tagsDistinct → t.tagsDistinct)
    (hb : Block.roster ∉ but ∧ Block.time ∉ but ∧ Block.loader ∉ but ∧ Block.sources ∉ but := by decide) :
    Upholds s t := by
  obtain ⟨roster, time, loader, sources⟩ := hb
  have roster : t.roster = s.roster := h .roster roster
  have time : t.time = s.time := h .time time
  have loader : t.loader = s.loader := h .loader loader
  have source : ∀ i, t.source i = s.source i := h.source_eq sources
  have pos (p : Pos) : t.pos p = s.pos p := by unfold State.pos; rw [roster]
  refine ⟨fun p => by unfold State.occupied; rw [pos], fun p => by rw [pos], by rw [time], ?_, tags, ?_⟩
  · rintro p empty ⟨lane, claim, entries⟩
    refine ⟨lanes p empty lane, by rwa [loader], ?_⟩
    simpa only [source] using entries
  · simp only [State.keysDistinct, source]
    exact id

theorem heldTags_congr (scale : t.scale = s.scale) (rehearsal : t.rehearsal = s.rehearsal) : t.heldTags = s.heldTags := by
  unfold State.heldTags
  rw [scale, rehearsal]

theorem tagsDistinct_of_eq (h : t.heldTags = s.heldTags) (k : s.tagsDistinct) : t.tagsDistinct := by
  unfold State.tagsDistinct
  rwa [h]

/-- Tags that are given back leave the others distinct. -/
theorem tagsDistinct_of_sublist (h : t.heldTags.Sublist s.heldTags) (k : s.tagsDistinct) : t.tagsDistinct :=
  ⟨k.1.sublist h, fun x hx => k.2 x (h.subset hx)⟩

/-- R88: a tag taken is the lowest free one. -/
theorem tagsDistinct_of_taken {k : Nat} (h : t.heldTags.Perm (k :: s.heldTags)) (free : s.freeTag = some k)
    (d : s.tagsDistinct) : t.tagsDistinct := by
  obtain ⟨nodup, range⟩ := d
  have fresh : k ∉ s.heldTags := by simpa using List.find?_some free
  have inPool : ∀ k ∈ allTags, 1 ≤ k ∧ k ≤ 15 := by decide
  refine ⟨h.nodup_iff.mpr (List.nodup_cons.mpr ⟨fresh, nodup⟩), fun x hx => ?_⟩
  rcases List.mem_cons.mp (h.mem_iff.mp hx) with rfl | hx
  · exact inPool _ (List.mem_of_find?_eq_some free)
  · exact range x hx

/-- Only parts are rewritten that have no say in the matter. -/
theorem Unchanged.upholds {but : List Block} (h : Unchanged but s t)
    (hb : (Block.roster ∉ but ∧ Block.time ∉ but ∧ Block.loader ∉ but ∧ Block.sources ∉ but) ∧
      Block.lanes ∉ but ∧ Block.scale ∉ but ∧ Block.rehearsal ∉ but := by decide) : Upholds s t := by
  obtain ⟨others, lanes, scale, rehearsal⟩ := hb
  have lanes : t.lanes = s.lanes := h .lanes lanes
  refine h.upholdsBut (fun p _ e => ?_) (tagsDistinct_of_eq (heldTags_congr (h .scale scale) (h .rehearsal rehearsal))) others
  unfold State.lane at e ⊢
  rwa [lanes]

/-- Lanes of positions that are not EMPTY are rewritten. -/
theorem Unchanged.upholdsLanes (h : Unchanged [.lanes] s t)
    (lanes : ∀ p, s.occupied p = false → s.lane p = .initial → t.lane p = .initial) : Upholds s t :=
  h.upholdsBut lanes (tagsDistinct_of_eq (heldTags_congr (h .scale (by decide)) (h .rehearsal (by decide))))

/-- The scale register, the schedule and the rehearsal are rewritten. -/
theorem Unchanged.upholdsTags (h : Unchanged [.scale, .rehearsal, .sched] s t) (tags : s.tagsDistinct → t.tagsDistinct) :
    Upholds s t := by
  have lanes : t.lanes = s.lanes := h .lanes (by decide)
  refine h.upholdsBut (fun p _ e => ?_) tags
  unfold State.lane at e ⊢
  rwa [lanes]

theorem Upholds.refl (s : State) : Upholds s s := (Unchanged.refl [] s).upholds

theorem Upholds.foldl {α : Type} (f : State → α → State) (h : ∀ s x, Upholds s (f s x)) (l : List α) (s : State) :
    Upholds s (l.foldl f s) := by
  induction l generalizing s with
  | nil => exact Upholds.refl s
  | cons x xs ih => exact (h s x).trans (ih (f s x))

theorem Upholds.andIte {c : Prop} [Decidable c] (h : Upholds s t) (k : Upholds t u) (l : Upholds t v) :
    Upholds s (if c then u else v) := Upholds.ite (h.trans k) (h.trans l)

/-- The record of a position is rewritten. -/
theorem upholds_setPos (p : Pos) {x : Position} (state : (x.state != .empty) = s.occupied p)
    (role : x.role = (s.pos p).role) : Upholds s (s.setPos p x) := by
  refine ⟨fun q => ?_, fun q => ?_, rfl, fun _ _ => id, id, id⟩
  · unfold State.occupied
    rw [State.setPos_pos]
    split
    · next h => subst h; exact state
    · rfl
  · rw [State.setPos_pos]
    split
    · next h => subst h; exact role
    · rfl

/-- The lane of a position is rewritten that is not EMPTY. -/
theorem upholds_setLane {p : Pos} (l : Lane) (h : s.occupied p = true) : Upholds s (s.setLane p l) := by
  refine (frame_setLane p l s).upholdsLanes fun q empty lane => ?_
  rw [State.setLane_lane]
  split
  · next e => subst e; rw [h] at empty; cases empty
  · exact lane

/-- The Time Base is rewritten, the lead apart. -/
theorem upholds_setTime {b : TimeBase} (h : b.holder = s.time.holder) : Upholds s (s.setTime b) :=
  ⟨fun _ => rfl, fun _ => rfl, h, fun _ _ => id, id, id⟩

/-- The load is rewritten: it is given up, or its claimer stays, or its claimer's position is not EMPTY. -/
theorem upholds_withLoader {l : Loader} (h : ∀ c ∈ l.claimer, c ∈ s.loader.claimer ∨ s.occupied (ctlPos c) = true) :
    Upholds s { s with loader := l } := by
  refine ⟨fun _ => rfl, fun _ => rfl, rfl, ?_, id, id⟩
  rintro p empty ⟨lane, claim, entries⟩
  refine ⟨lane, fun c hc e => ?_, entries⟩
  rcases h c hc with old | occupied
  · exact claim c old e
  · rw [e, empty] at occupied; cases occupied

end

/-! ### Boards and records -/

section
variable {s t : State}

theorem upholds_notifyWhere (who : Pos → Bool) (n : Notice) (s : State) : Upholds s (s.notifyWhere who n) := by
  refine (frame_notifyWhere who n s).upholdsLanes fun p empty lane => ?_
  simpa [State.notifyWhere, State.lane, empty] using lane

theorem upholds_clearBoards (f : Notice → Bool) (s : State) : Upholds s (s.clearBoards f) := by
  refine (frame_clearBoards f s).upholdsLanes fun p _ lane => ?_
  have : (s.clearBoards f).lane p = { s.lane p with board := (s.lane p).board.filter fun e => !f e.notice } := by
    simp [State.clearBoards, State.lane]
  rw [this, lane]
  rfl

theorem upholds_refreshOffers (s : State) : Upholds s s.refreshOffers := by
  refine (frame_refreshOffers s).upholdsLanes fun p empty lane => ?_
  have state : (s.pos p).state = .empty := by simpa [State.occupied] using empty
  have wants : s.wantsOffer p = false := by simp [State.wantsOffer, State.needsOffer, state]
  simp [wants, lane, Lane.initial]

theorem upholds_finish (s : State) : Upholds s s.finish := (upholds_refreshOffers s).trans (frame_sync _).upholds

theorem upholds_dissolveEmpty (s : State) : Upholds s s.dissolveEmpty :=
  (frame_dissolveEmpty s).mono.upholdsTags (tagsDistinct_of_sublist ((List.filter_sublist.map _).append (List.Sublist.refl _)))

theorem upholds_withdraw (r : Record) (why : Reason) (s : State) : Upholds s (s.withdraw r why) := by
  unfold State.withdraw
  dsimp only
  refine Upholds.andIte ?_ (upholds_notifyWhere _ _ _) (upholds_notifyWhere _ _ _)
  refine Upholds.andIte ?_ (upholds_dissolveEmpty _) (Upholds.refl _)
  exact Upholds.andIte (frame_setRecords _ s).upholds (frame_listWithdrawn _ _ _).upholds (Upholds.refl _)

/-! ### The tally -/

theorem upholds_tallyAgreement (s : State) : Upholds s s.tallyAgreement :=
  (frame_tallyAgreement s).mono.upholdsTags (tagsDistinct_of_eq (by unfold State.tallyAgreement; split <;> rfl))

theorem upholds_tryNewcomer {vs : List Voter} {n : Refused} (h : s.tryNewcomer vs n = some t) : Upholds s t := by
  unfold State.tryNewcomer at h
  split at h
  · cases h; exact (frame_placeNewcomer vs n s).upholds
  · split at h
    · cases h; exact (upholds_withdraw _ _ s).trans (frame_placeNewcomer vs n _).upholds
    · cases h

theorem upholds_placeAll (vs : List Voter) (l : List Refused) (s : State) (f : Option Refused) :
    Upholds s (placeAll vs l (s, f)).1 := by
  induction l generalizing s f with
  | nil => exact Upholds.refl s
  | cons n ns ih =>
    unfold placeAll
    split
    · next h => exact (upholds_tryNewcomer h).trans (ih _ _)
    · exact ih _ _

theorem upholds_setRefused (held : Bool) (f : Option Refused) (s : State) : Upholds s (s.setRefused held f) := by
  unfold State.setRefused
  split
  · exact Upholds.ite (Upholds.refl s) (frame_withSched _ s).upholds
  · exact Upholds.ite (frame_withSched _ s).upholds ((frame_withSched _ s).upholds.trans (upholds_notifyWhere _ _ _))

theorem upholds_tallyNewcomers (vs : List Voter) (s : State) : Upholds s (s.tallyNewcomers vs) :=
  (upholds_placeAll vs _ s none).trans (upholds_setRefused _ _ _)

theorem upholds_tallyQualify (vs : List Voter) (s : State) : Upholds s (s.tallyQualify vs) :=
  (Upholds.foldl _ (fun s id => (frame_judge vs id s).upholds) _ s).trans
    (Upholds.foldl _ (fun s _ => upholds_notifyWhere _ _ s) _ _)

theorem upholds_tallyLapse (s : State) : Upholds s s.tallyLapse :=
  Upholds.foldl _ (fun s _ => Upholds.ite (upholds_withdraw _ _ s)
    (Upholds.ite (upholds_withdraw _ _ s) (Upholds.refl s))) _ s

theorem upholds_tallyOppose (s : State) : Upholds s s.tallyOppose :=
  Upholds.foldl _ (fun s _ => Upholds.ite (upholds_withdraw _ _ s) (Upholds.refl s)) _ s

theorem upholds_tally (s : State) : Upholds s s.tally := by
  unfold State.tally
  dsimp only
  refine Upholds.trans ?_ (frame_tallyRelease _ _).upholds
  refine Upholds.trans ?_ (upholds_tallyOppose _)
  refine Upholds.trans ?_ (upholds_tallyQualify _ _)
  refine Upholds.trans ?_ (upholds_tallyNewcomers _ _)
  refine Upholds.trans ?_ (frame_tallyPurge _ _).upholds
  refine Upholds.trans ?_ (upholds_tallyLapse _)
  exact (frame_tallyCounts _ s).upholds.trans (upholds_tallyAgreement _)

/-! ### The Source Table -/

/-- An entry is rewritten: no other one has its key, and it is live only at a position that is not EMPTY. -/
theorem upholds_setSource {i : Fin 16} {e : Source}
    (key : s.keysDistinct → e.key.isSome = true → ∀ j, (s.source j).key = e.key → j = i)
    (live : ∀ p, s.occupied p = false → s.clearAt p → ∀ k ∈ e.key, k.pos = p → ¬ e.isLive) :
    Upholds s (s.setSource i e) := by
  refine ⟨fun _ => rfl, fun _ => rfl, rfl, ?_, id, ?_⟩
  · rintro p empty clear
    refine ⟨clear.1, clear.2.1, fun j k => ?_⟩
    rw [State.setSource_source]
    split
    · exact live p empty clear k
    · exact clear.2.2 j k
  · intro distinct j l some same
    rw [State.setSource_source] at some same
    rw [State.setSource_source] at same
    split at some
    · next hj =>
      subst hj
      rw [if_pos rfl] at same
      split at same
      · assumption
      · exact (key distinct some l same.symm).symm
    · next hj =>
      rw [if_neg hj] at same
      split at same
      · next hl => rw [← hl]; exact key distinct (same ▸ some) j same
      · exact distinct j l some same

theorem upholds_putSource {i : Fin 16} {e : Source}
    (key : s.keysDistinct → e.key.isSome = true → ∀ j, (s.source j).key = e.key → j = i)
    (live : ∀ p, s.occupied p = false → s.clearAt p → ∀ k ∈ e.key, k.pos = p → ¬ e.isLive) :
    Upholds s (s.putSource i e) := by
  have set : Upholds s (s.setSource i e) := upholds_setSource key live
  unfold State.putSource
  dsimp only
  refine Upholds.andIte (set.trans ?_) (upholds_notifyWhere _ _ _) (Upholds.refl _)
  exact Upholds.ite (Upholds.refl _) (frame_unmark i _).upholds

/-- An entry keeps its key, and does not become live. -/
theorem upholds_putSame {i : Fin 16} {e : Source} (key : e.key = (s.source i).key)
    (live : e.isLive → (s.source i).isLive) : Upholds s (s.putSource i e) := by
  refine upholds_putSource (fun distinct some j same => ?_) fun p empty clear k hk hp h => ?_
  · rw [key] at some same
    exact (distinct i j some same.symm).symm
  · exact clear.2.2 i k (key ▸ hk) hp (live h)

theorem upholds_prompt {i : Fin 16} {e : Source} (h : Upholds s (s.putSource i e)) : Upholds s (s.prompt i e) :=
  Upholds.ite (h.trans (upholds_tally _)) h

/-- A state that is neither LISTENING nor VOUCHING. -/
theorem not_isLive {e : Source} {x : SourceState} (h : x ≠ .listening ∧ x ≠ .vouching := by decide) :
    ¬ { e with state := x }.isLive := not_or.mpr h

theorem upholds_departSources (p : Pos) (s : State) : Upholds s (s.departSources p) := by
  refine Upholds.foldl _ (fun s i => ?_) _ s
  dsimp only
  split
  · exact Upholds.ite (upholds_putSame rfl fun h => absurd h not_isLive) (Upholds.refl s)
  · exact Upholds.refl s

theorem live_of_age {n : Nat} {e : Source} (h : (e.age n).isLive) : e.isLive := by
  unfold Source.age at h
  split at h
  · exact absurd h not_isLive
  · exact h

theorem live_of_revouch {n : Nat} {e : Source} (h : (e.revouch n).isLive) : e.isLive := by
  unfold Source.revouch at h
  split at h
  · unfold Source.isLive at h ⊢
    dsimp only at h
    split at h <;> tauto
  · exact h

theorem live_of_nextSource {rekey : Bool} {e : Source} (h : (s.nextSource rekey e).isLive) : e.isLive := by
  unfold State.nextSource at h
  dsimp only at h
  split at h
  · exact live_of_age (e := e.tick) (live_of_revouch h)
  · exact live_of_age (e := e.tick) h

theorem upholds_boundarySource (old : Option Nat) (rekey : Bool) (i : Fin 16) (s : State) :
    Upholds s (s.boundarySource old rekey i) := by
  unfold State.boundarySource
  dsimp only
  refine Upholds.ite (Upholds.refl s) ?_
  generalize hu : (if ((s.source i).spent old != (s.source i).spent s.time.t) = true then s.unmark i else s) = u
  have unmarked : Upholds s u := hu ▸ Upholds.ite (frame_unmark i s).upholds (Upholds.refl s)
  have source : u.source i = s.source i := by rw [← hu]; split <;> rfl
  have put : Upholds s (u.putSource i (u.nextSource rekey (s.source i))) :=
    unmarked.trans (upholds_putSame (by rw [nextSource_key, source]) fun h => by rw [source]; exact live_of_nextSource h)
  exact Upholds.ite (put.trans (upholds_notifyWhere _ _ _)) put

theorem upholds_boundarySources (old : Option Nat) (rekey : Bool) (s : State) :
    Upholds s (s.boundarySources old rekey) :=
  Upholds.foldl _ (fun s i => upholds_boundarySource old rekey i s) _ s

theorem upholds_freeSources (s : State) : Upholds s s.freeSources :=
  Upholds.foldl _ (fun s _ => Upholds.ite (Upholds.refl s)
    (upholds_putSource (fun _ h => by cases h) fun _ _ _ k h => by cases h)) _ s

/-! ### Positions and rehearsals -/

theorem upholds_setRehearsal {r : Rehearsal} (h : { s with rehearsal := r }.heldTags.Sublist s.heldTags) :
    Upholds s { s with rehearsal := r } :=
  (frame_withRehearsal r s).mono.upholdsTags (tagsDistinct_of_sublist h)

/-- A rehearsal that is not armed holds no tag. -/
theorem heldTags_unarmed {r : Rehearsal} (h : r.isArmed = false) :
    { s with rehearsal := r }.heldTags.Sublist s.heldTags := by
  unfold State.heldTags
  simp only [h, Bool.false_eq_true, if_false, List.append_nil]
  exact List.sublist_append_left _ _

theorem upholds_noteResult (a b : Nat) (c : Bool) (s : State) : Upholds s (s.noteResult a b c) := by
  unfold State.noteResult
  split
  · exact upholds_notifyWhere _ _ s
  · exact Upholds.refl s

theorem upholds_endRehearsal (c : Bool) (s : State) : Upholds s (s.endRehearsal c) :=
  ((upholds_clearBoards _ s).trans (upholds_noteResult _ _ _ _)).trans (upholds_setRehearsal (heldTags_unarmed rfl))

theorem upholds_cancelRehearsal (s : State) : Upholds s s.cancelRehearsal :=
  Upholds.ite (upholds_endRehearsal _ s) (Upholds.refl s)

theorem upholds_frameRehearsal (s : State) : Upholds s s.frameRehearsal := by
  unfold State.frameRehearsal
  split
  · exact upholds_setRehearsal (List.Sublist.refl _)
  · exact Upholds.refl s

theorem upholds_rollRehearsal (s : State) : Upholds s s.rollRehearsal := by
  unfold State.rollRehearsal
  split
  · next armed _ _ _ =>
    refine Upholds.ite (upholds_setRehearsal ?_) (Upholds.refl s)
    simp [State.heldTags, Rehearsal.isArmed, armed]
  · exact Upholds.refl s

theorem upholds_moveRehearsal (t x : Nat) (s : State) : Upholds s (s.moveRehearsal t x) := by
  unfold State.moveRehearsal
  split
  · exact Upholds.ite (upholds_cancelRehearsal s) (upholds_setRehearsal (List.Sublist.refl _))
  · exact Upholds.refl s

theorem upholds_settlePending (b : Nat) (real : Bool) (s : State) : Upholds s (s.settlePending b real) := by
  unfold State.settlePending
  dsimp only
  split
  · next pending =>
    refine Upholds.ite (upholds_cancelRehearsal s) ?_
    split
    · exact Upholds.refl s
    · next k free =>
      refine Upholds.trans ?_ (upholds_notifyWhere _ _ _)
      refine (frame_withRehearsal _ s).mono.upholdsTags (tagsDistinct_of_taken ?_ free)
      simp [State.heldTags, Rehearsal.isArmed, pending]
  · exact Upholds.refl s

theorem upholds_completeRehearsal (t : Nat) (s : State) : Upholds s (s.completeRehearsal t) :=
  Upholds.ite (upholds_endRehearsal _ s) (Upholds.refl s)

end

/-! ### The Change-over Controller -/

section
variable {s t : State}

/-- The scale register is rewritten, the groups' tags apart. -/
theorem upholds_withScale {c : Scale} (h : c.groups.map Group.tag = s.scale.groups.map Group.tag := by rfl) :
    Upholds s { s with scale := c } :=
  (frame_withScale c s).mono.upholdsTags (tagsDistinct_of_eq (by simp only [State.heldTags, h]))

theorem upholds_setD (d : Nat) (s : State) : Upholds s (s.setD d) :=
  (frame_setD d s).mono.upholdsTags (tagsDistinct_of_eq (by
    simp only [State.heldTags, scale_setD, show (s.setD d).rehearsal = s.rehearsal from frame_setD d s .rehearsal (by decide)]))

theorem upholds_clearAll (s : State) : Upholds s s.clearAll := by
  unfold State.clearAll
  dsimp only
  refine Upholds.trans ?_ (upholds_notifyWhere _ _ _)
  refine Upholds.trans ?_ (upholds_clearBoards _ _)
  refine Upholds.trans ?_ (upholds_freeSources _)
  refine Upholds.trans ?_ upholds_withScale
  refine (upholds_cancelRehearsal s).trans ?_
  generalize s.cancelRehearsal = u
  have frame (c : Scale) (d : Schedule) : Unchanged [.scale, .rehearsal, .sched] u { u with scale := c, sched := d } :=
    (frame_withScale c u).mono.trans (frame_withSched d _).mono
  refine (frame _ _).upholdsTags (tagsDistinct_of_sublist ?_)
  exact List.Sublist.append (List.nil_sublist _) (List.Sublist.refl _)

theorem upholds_boundaryClear (s : State) : Upholds s s.boundaryClear := Upholds.ite (upholds_clearAll s) (Upholds.refl s)

theorem upholds_boundaryInserted (s : State) : Upholds s s.boundaryInserted := by
  unfold State.boundaryInserted
  split
  · exact Upholds.refl s
  · dsimp only
    split
    · exact Upholds.trans upholds_withScale (upholds_setD _ _)
    · exact upholds_withScale

theorem upholds_boundarySettling (s : State) : Upholds s s.boundarySettling := by
  unfold State.boundarySettling
  split
  · exact (frame_setRecords _ s).upholds
  · exact Upholds.refl s

theorem upholds_applyRecord (t : Nat) (r : Record) (s : State) : Upholds s (s.applyRecord t r) := by
  unfold State.applyRecord
  dsimp only
  split
  · split
    · refine Upholds.ite ?_ (upholds_withdraw _ _ s)
      split
      · exact Upholds.trans upholds_withScale upholds_withScale
      · exact Upholds.trans upholds_withScale (upholds_setD _ _)
    · exact upholds_withdraw _ _ s
  · exact Upholds.trans (Upholds.trans upholds_withScale upholds_withScale) (upholds_setD _ _)
  · split
    · exact Upholds.trans upholds_withScale (frame_withZones _ _).upholds
    · exact upholds_withScale

theorem upholds_retire (g : Group) (s : State) : Upholds s (s.retire g) :=
  (frame_setRecords _ s).upholds.trans ((frame_withScale _ _).mono.upholdsTags
    (tagsDistinct_of_sublist ((List.filter_sublist.map _).append (List.Sublist.refl _))))

theorem upholds_applyGroup (t : Nat) (g : Group) (s : State) : Upholds s (s.applyGroup t g) := by
  unfold State.applyGroup
  dsimp only
  exact Upholds.andIte ((Upholds.foldl _ (fun s r => upholds_applyRecord t r s) _ s).trans (upholds_retire g _))
    (Upholds.refl _) (upholds_notifyWhere _ _ _)

theorem upholds_boundaryApply (retime : Bool) (s : State) : Upholds s (s.boundaryApply retime) := by
  unfold State.boundaryApply
  split
  · dsimp only
    refine Upholds.trans ?_ (upholds_completeRehearsal _ _)
    split
    · exact upholds_applyGroup _ _ s
    · exact Upholds.refl s
  · exact Upholds.refl s

theorem upholds_boundaryScale (retime : Bool) (s : State) : Upholds s (s.boundaryScale retime) := by
  refine Upholds.trans ?_ (upholds_boundaryApply retime _)
  refine Upholds.trans ?_ (upholds_boundarySettling _)
  refine Upholds.trans ?_ (Upholds.ite upholds_withScale (Upholds.refl _))
  exact (upholds_boundaryClear s).trans (upholds_boundaryInserted _)

theorem upholds_missedPass (t : Nat) (retime : Bool) (s : State) : Upholds s (s.missedPass t retime) := by
  unfold State.missedPass
  dsimp only
  exact ((frame_setRecords _ s).upholds.trans (upholds_dissolveEmpty _)).trans
    (Upholds.foldl _ (fun s _ => upholds_notifyWhere _ _ s) _ _)

theorem upholds_armRecord (b a tag : Nat) (r : Record) (s : State) : Upholds s (s.armRecord b a tag r) :=
  (frame_updateRecord _ _ s).upholds.trans (upholds_notifyWhere _ _ _)

/-- R86, R88: a record that forms a group takes a free tag. -/
theorem upholds_armInto (b : Nat) (r : Record) (s : State) : Upholds s (s.armInto b r) := by
  unfold State.armInto
  dsimp only
  split
  · exact upholds_armRecord _ _ _ _ s
  · have cancelled : Upholds s (if s.rehearsal.isArmed = true then s.cancelRehearsal else s) :=
      Upholds.ite (upholds_cancelRehearsal s) (Upholds.refl s)
    refine cancelled.trans ?_
    generalize (if s.rehearsal.isArmed = true then s.cancelRehearsal else s) = u
    split
    · exact Upholds.refl u
    · next k free =>
      refine Upholds.trans ?_ (upholds_armRecord _ _ _ _ _)
      refine (frame_withScale _ u).mono.upholdsTags (tagsDistinct_of_taken ?_ free)
      simp only [State.heldTags, List.map_append, List.map_cons, List.map_nil, List.append_assoc, List.singleton_append]
      exact List.perm_middle

theorem upholds_armAll (b : Nat) (rs : List Record) (s : State) : Upholds s (s.armAll b rs) :=
  Upholds.foldl _ (fun s r => upholds_armInto b r s) _ s

theorem upholds_armingPass (b : Nat) (s : State) : Upholds s (s.armingPass b) := by
  unfold State.armingPass
  dsimp only
  refine Upholds.trans ?_ (upholds_settlePending _ _ _)
  refine (Upholds.foldl _ (fun s r => upholds_withdraw r .range s)
    ((s.records.filter (s.eligible b)).filter s.rangeFails) s).trans ?_
  exact Upholds.ite ((upholds_armAll _ _ _).trans (upholds_armAll _ _ _)) (upholds_armAll _ _ _)

theorem upholds_boundaryArm (retime : Bool) (s : State) : Upholds s (s.boundaryArm retime) := by
  unfold State.boundaryArm
  split
  · exact (upholds_missedPass _ _ s).trans (upholds_armingPass _ _)
  · exact Upholds.refl s

theorem upholds_rollGroup (tag : Nat) (s : State) : Upholds s (s.rollGroup tag) := by
  unfold State.rollGroup
  dsimp only
  refine Upholds.trans (upholds_withScale ?_) (Upholds.foldl _ (fun s p => ?_) _ _)
  · rw [List.map_map]
    refine List.map_congr_left fun g _ => ?_
    simp only [Function.comp]
    split <;> rfl
  · split
    · next h =>
      have inStep : (s.pos p).state = .inStep := by simp only [Bool.and_eq_true, decide_eq_true_eq] at h; exact h.1
      have lagging : Upholds s (s.setPos p (s.pos p).toLagging) := upholds_setPos p (by simp [State.occupied, inStep]; rfl) rfl
      exact lagging.trans (upholds_notifyWhere _ _ _)
    · exact Upholds.refl s

theorem upholds_rollCalls (s : State) : Upholds s s.rollCalls := by
  unfold State.rollCalls
  split
  · exact Upholds.refl s
  · exact (Upholds.foldl _ (fun s k => upholds_rollGroup k s) _ s).trans (upholds_rollRehearsal _)

/-! ### Zones and rule sets -/

theorem upholds_drawPass (cleared : Bool) (s : State) : Upholds s (s.drawPass cleared) := (frame_drawPass cleared s).upholds

theorem upholds_idleLoader (s : State) : Upholds s s.idleLoader := upholds_withLoader fun c hc => by cases hc

theorem upholds_timeOutLoad (s : State) : Upholds s s.timeOutLoad := by
  unfold State.timeOutLoad
  dsimp only
  split
  · exact (upholds_idleLoader s).trans (upholds_notifyWhere _ _ _)
  · exact upholds_idleLoader s

theorem upholds_tickLoader (s : State) : Upholds s s.tickLoader :=
  Upholds.ite (upholds_withLoader fun _ => Or.inl) (Upholds.refl s)

theorem upholds_settleLoader (s : State) : Upholds s s.settleLoader := upholds_withLoader fun _ => Or.inl

theorem upholds_expireLoader (s : State) : Upholds s s.expireLoader := Upholds.ite (upholds_timeOutLoad s) (Upholds.refl s)

theorem upholds_departLoader (p : Pos) (s : State) : Upholds s (s.departLoader p) := by
  unfold State.departLoader
  split
  · exact Upholds.ite (upholds_idleLoader s) (Upholds.refl s)
  · exact Upholds.refl s

/-- R143: the answer goes to a claimer, which is at no clear EMPTY position. -/
theorem upholds_answerClaimer (code : Code) (b : List Byte) (s : State) : Upholds s (s.answerClaimer code b) := by
  unfold State.answerClaimer
  split
  · exact Upholds.refl s
  · next c claimer =>
    refine ⟨fun _ => rfl, fun _ => rfl, rfl, ?_, id, id⟩
    rintro p empty ⟨lane, claim, entries⟩
    refine ⟨?_, claim, entries⟩
    rw [State.setLane_lane, if_neg (claim c claimer)]
    exact lane

theorem upholds_install (r : RuleStore) (s : State) : Upholds s (s.install r) :=
  (frame_withRules r s).upholds.trans (Upholds.foldl _ (fun s x => upholds_withdraw x .replaced s) _ _)

theorem upholds_boundaryVerify (s : State) : Upholds s s.boundaryVerify := by
  unfold State.boundaryVerify
  split
  · split
    · exact ((upholds_install _ s).trans (upholds_answerClaimer _ _ _)).trans (upholds_idleLoader _)
    · exact (upholds_answerClaimer _ _ s).trans (upholds_idleLoader _)
  · exact Upholds.refl s

/-! ### Time and lanes -/

/-- The two trackers are rewritten. -/
theorem upholds_markMiss (c : Ctl) (s : State) : Upholds s (markMiss c s) :=
  Upholds.ite (upholds_setTime (by cases c <;> rfl)) (Upholds.refl s)

theorem upholds_resetLane (p : Pos) (s : State) : Upholds s (s.resetLane p) := by
  unfold State.resetLane
  split
  · next occupied =>
    have cursor : Upholds s (s.setPos p { s.pos p with cursor := none }) := upholds_setPos p rfl rfl
    dsimp only
    split
    · exact cursor.trans (upholds_setLane _ ((cursor.occupied p).trans occupied))
    · exact upholds_setLane _ occupied
  · exact Upholds.refl s

theorem upholds_resetLanes (s : State) : Upholds s s.resetLanes := Upholds.foldl _ (fun s p => upholds_resetLane p s) _ s

theorem upholds_clearLane (p : Pos) (s : State) : Upholds s (s.clearLane p) := by
  refine (frame_clearLane p s).upholdsLanes fun q _ lane => ?_
  simp only [State.clearLane, State.setLane_lane, lane, ite_self]

theorem upholds_sendNotice {p : Pos} (e : BoardEntry) (b : List Byte) (h : s.occupied p = true) :
    Upholds s (s.sendNotice p e b) := by
  unfold State.sendNotice
  dsimp only
  exact Upholds.andIte (upholds_setLane _ h) (upholds_setPos p rfl rfl) (Upholds.refl _)

theorem upholds_arbiter (p : Pos) (s : State) : Upholds s (s.arbiter p) := by
  unfold State.arbiter
  split
  · next free =>
    have occupied : s.occupied p = true := by
      unfold State.laneFree at free
      simp only [Bool.and_eq_true] at free
      exact free.1.1.1.1
    split
    · exact Upholds.ite (upholds_setLane _ occupied) (Upholds.refl s)
    · split
      · exact Upholds.ite (upholds_sendNotice _ _ occupied) (Upholds.refl s)
      · exact Upholds.refl s
  · exact Upholds.refl s

theorem upholds_owe {p : Pos} (r : Response) (h : s.occupied p = true) : Upholds s (s.owe p r) := upholds_setLane _ h

/-! ### Requests -/

theorem posCtl_some {p : Pos} {c : Ctl} (h : posCtl p = some c) : ctlPos c = p := by
  unfold posCtl at h
  split at h
  · next e => cases h; exact e.symm
  · split at h
    · next e => cases h; exact e.symm
    · cases h

/-- R34, R36: the entry that a view is taken by holds the key, or no entry does. -/
theorem key_of_entryOr {k : SourceKey} {i : Fin 16} (h : (s.entryOf k).or s.roomFor = some i) :
    (s.source i).key = some k ∨ s.entryOf k = none ∧ ∀ j, (s.source j).key ≠ some k := by
  cases hk : s.entryOf k with
  | some j =>
    rw [hk] at h
    cases h
    exact .inl (by simpa using List.find?_some hk)
  | none => exact .inr ⟨rfl, fun j => by simpa using List.find?_eq_none.mp hk j (mem_allEntries j)⟩

theorem upholds_takeView {leaving : Bool} {k : SourceKey} (v : View) (h : s.occupied k.pos = true) :
    Upholds s (takeView leaving k v s).1 := by
  unfold takeView
  split
  · exact Upholds.refl s
  · next i hi =>
    generalize he : (if (s.source i).key = some k then s.source i else Source.fresh k s.time.t) = e
    have key : (e.hear (s.value Config.persistence) s.time.t v).key = some k := by
      show e.key = some k
      rw [← he]
      split
      · assumption
      · rfl
    have put : Upholds s (s.putSource i (e.hear (s.value Config.persistence) s.time.t v)) := by
      refine upholds_putSource (fun distinct _ j same => ?_) fun p empty _ k' hk' hp => ?_
      · rw [key] at same
        rcases key_of_entryOr hi with own | ⟨-, none⟩
        · exact distinct j i (by rw [same]; rfl) (same.trans own.symm)
        · exact absurd same (none j)
      · rw [key] at hk'
        cases hk'
        rw [hp, empty] at h
        cases h
    exact Upholds.ite (put.trans (upholds_departSources _ _)) (upholds_prompt put)

theorem Upholds.iteFst {α : Type} {c : Prop} [Decidable c] {x y : State × α} (h : Upholds s x.1) (k : Upholds s y.1) :
    Upholds s (if c then x else y).1 := by
  split <;> assumption

theorem upholds_accept (b : List Byte) (h : Upholds s t) : Upholds s (accept t b).1 := h

theorem upholds_announce {p : Pos} (leaving : Bool) (o d k : Byte) (i : Option (BitVec 40)) (h : s.occupied p = true) :
    Upholds s (announce leaving p o d k i s).1 := by
  unfold announce
  split
  · exact Upholds.refl s
  · refine Upholds.iteFst (Upholds.refl s) (Upholds.iteFst (Upholds.refl s) ?_)
    split
    · exact Upholds.refl s
    · exact upholds_takeView _ h

/-- R49: an entry whose position is EMPTY is unmuted STALE. -/
theorem unmuted_of_empty {e : Source} {k : SourceKey} (key : e.key = some k) (empty : s.occupied k.pos = false) :
    s.unmuted e = .stale := by
  simp [State.unmuted, key, empty]

theorem upholds_muteSource (p : Pos) (q o : Byte) (m : Option Bool) (s : State) :
    Upholds s (muteSource p q o m s).1 := by
  unfold muteSource
  refine Upholds.iteFst (Upholds.refl s) ?_
  split
  · split
    · split
      · exact Upholds.refl s
      · next i _ =>
        refine Upholds.iteFst (upholds_prompt (upholds_putSame rfl fun h => absurd h not_isLive)) ?_
        refine Upholds.iteFst (upholds_prompt (upholds_putSource (fun distinct some j same => ?_) ?_)) (Upholds.refl s)
        · exact (distinct i j some same.symm).symm
        · rintro p empty - k key rfl
          have key : (s.source i).key = some k := key
          rw [show s.unmuted (s.source i) = .stale from unmuted_of_empty key empty]
          exact not_isLive
    · exact Upholds.refl s
  · exact Upholds.refl s

theorem upholds_replaceBaselines (v : Nat) (s : State) : Upholds s (s.replaceBaselines v) :=
  Upholds.foldl _ (fun s _ => Upholds.ite (upholds_withdraw _ _ s) (Upholds.refl s)) _ s

theorem upholds_operatorBaseline (v : Nat) (s : State) : Upholds s (s.operatorBaseline v) :=
  (frame_operatorBaseline v s).upholds

theorem upholds_placeOffset (v : Nat) (s : State) : Upholds s (placeOffset v s).1 := by
  have done (u : State) (h : Upholds s u) :
      Upholds s (accept ((u.unlist (.baseline v)).operatorBaseline v).tally).1 :=
    upholds_accept _
      (((h.trans (frame_unlist _ u).upholds).trans (upholds_operatorBaseline v _)).trans (upholds_tally _))
  unfold placeOffset
  dsimp only
  refine Upholds.iteFst (done _ (upholds_replaceBaselines v s)) ?_
  split
  · exact done _ ((upholds_replaceBaselines v s).trans (upholds_withdraw _ _ _))
  · exact Upholds.refl s

theorem upholds_setOffset (p : Pos) (v : BitVec 16) (s : State) : Upholds s (setOffset p v s).1 := by
  unfold setOffset
  dsimp only
  refine Upholds.iteFst (Upholds.refl s) (Upholds.iteFst (Upholds.refl s) (Upholds.iteFst (Upholds.refl s) ?_))
  refine Upholds.iteFst (Upholds.iteFst (upholds_accept _ upholds_withScale) (Upholds.refl s)) ?_
  split
  · exact upholds_accept _ ((frame_updateRecord _ _ s).upholds.trans (upholds_tally _))
  · exact upholds_placeOffset _ s

theorem upholds_confirm (p : Pos) (id : Byte) (s : State) : Upholds s (confirm p id s).1 := by
  unfold confirm
  refine Upholds.iteFst (Upholds.refl s) (Upholds.iteFst ?_ ?_)
  · split
    · exact Upholds.refl s
    · exact Upholds.iteFst (upholds_accept _ upholds_withScale) (Upholds.refl s)
  · split
    · exact Upholds.refl s
    · exact Upholds.iteFst (upholds_accept _ ((frame_updateRecord _ _ s).upholds.trans (upholds_tally _))) (Upholds.refl s)

theorem upholds_withdrawRequest (p : Pos) (id : Byte) (s : State) : Upholds s (withdrawRequest p id s).1 := by
  unfold withdrawRequest
  refine Upholds.iteFst (Upholds.refl s) (Upholds.iteFst (Upholds.refl s) ?_)
  split
  · exact Upholds.refl s
  · refine Upholds.iteFst (Upholds.refl s) (Upholds.iteFst (Upholds.refl s) ?_)
    exact upholds_accept _ (((upholds_withdraw _ _ s).trans (frame_markSkipped _ _).upholds).trans (upholds_tally _))

theorem upholds_shiftZone (p : Pos) (z : Byte) (o : BitVec 16) (i : BitVec 40) (s : State) :
    Upholds s (shiftZone p z o i s).1 := by
  unfold shiftZone
  dsimp only
  refine Upholds.iteFst (Upholds.refl s) (Upholds.iteFst (Upholds.refl s) ?_)
  split
  · exact Upholds.refl s
  · refine Upholds.iteFst (Upholds.refl s) (Upholds.iteFst (Upholds.refl s) ?_)
    refine upholds_accept _ (Upholds.trans ?_ (upholds_tally _))
    refine Upholds.trans ?_ (frame_place _ _ _ _ _ _).upholds
    split
    · exact (upholds_withdraw _ _ s).trans (frame_markSkipped _ _).upholds
    · exact Upholds.refl s

theorem upholds_setPosition (p : Pos) (q m z : Byte) (s : State) : Upholds s (setPosition p q m z s).1 := by
  unfold setPosition
  split
  · dsimp only
    refine Upholds.iteFst (Upholds.refl s) ?_
    split
    · exact Upholds.iteFst (Upholds.refl s) (upholds_setPos _ rfl rfl)
    · exact Upholds.refl s
  · exact Upholds.refl s

theorem upholds_rulesetStart {p : Pos} (l : BitVec 16) (u : Byte) (n : BitVec 32) (h : s.occupied p = true) :
    Upholds s (rulesetStart p l u n s).1 := by
  unfold rulesetStart
  split
  · exact Upholds.refl s
  · next c hc =>
    dsimp only
    refine Upholds.iteFst (Upholds.refl s) (Upholds.iteFst (Upholds.refl s) (Upholds.iteFst (Upholds.refl s) ?_))
    refine upholds_accept _ (upholds_withLoader fun x hx => .inr ?_)
    cases hx
    rw [posCtl_some hc]
    exact h

theorem upholds_rulesetData (p : Pos) (b : List Byte) (s : State) : Upholds s (rulesetData p b s).1 := by
  unfold rulesetData
  refine Upholds.iteFst (Upholds.refl s) (Upholds.iteFst (Upholds.refl s) ?_)
  split
  · exact Upholds.refl s
  · exact Upholds.iteFst (Upholds.refl s) (upholds_accept _ (upholds_withLoader fun _ => Or.inl))

theorem upholds_rulesetFinish (p : Pos) (s : State) : Upholds s (rulesetFinish p s).1 := by
  unfold rulesetFinish
  split
  · exact Upholds.refl s
  · exact Upholds.iteFst (Upholds.refl s) (upholds_withLoader fun _ => Or.inl)

theorem upholds_rulesetAbandon (p : Pos) (s : State) : Upholds s (rulesetAbandon p s).1 := by
  unfold rulesetAbandon
  split
  · exact Upholds.refl s
  · exact upholds_idleLoader s

theorem upholds_rehearse (p : Pos) (n : BitVec 16) (s : State) : Upholds s (rehearse p n s).1 := by
  unfold rehearse
  refine Upholds.iteFst (Upholds.refl s) ?_
  dsimp only
  split
  · refine Upholds.iteFst (Upholds.refl s) (Upholds.iteFst (Upholds.refl s) (Upholds.iteFst (Upholds.refl s) ?_))
    exact Upholds.iteFst (Upholds.refl s) (upholds_accept _ (upholds_setRehearsal (heldTags_unarmed rfl)))
  · exact Upholds.refl s

/-- What a request of any kind upholds, from a position that is not EMPTY. -/
theorem upholds_perform {p : Pos} (leaving : Bool) (r : Request) (h : s.occupied p = true) :
    Upholds s (perform leaving p r s).1 := by
  cases r with
  | announce o d k i => exact upholds_announce leaving o d k i h
  | setTime x =>
    refine Upholds.iteFst (Upholds.refl s) (Upholds.iteFst (Upholds.refl s) ?_)
    split
    · exact upholds_setTime rfl
    · exact Upholds.iteFst (Upholds.refl s) (upholds_setTime (by rfl))
  | setOffset v => exact upholds_setOffset p v s
  | confirm id => exact upholds_confirm p id s
  | withdraw id => exact upholds_withdrawRequest p id s
  | shiftZone z o i => exact upholds_shiftZone p z o i s
  | configure k v => exact (frame_configure p k v s).upholds
  | setPosition q m z => exact upholds_setPosition p q m z s
  | muteSource q o a => exact upholds_muteSource p q o _ s
  | clearScale => exact Upholds.iteFst (Upholds.refl s) (upholds_accept _ upholds_withScale)
  | rulesetStart l u n => exact upholds_rulesetStart l u n h
  | rulesetData b => exact upholds_rulesetData p b s
  | rulesetFinish => exact upholds_rulesetFinish p s
  | rulesetAbandon => exact upholds_rulesetAbandon p s
  | rehearse n => exact upholds_rehearse p n s
  | rehearsalCancel =>
    exact Upholds.iteFst (Upholds.refl s) (Upholds.iteFst (Upholds.refl s) (upholds_cancelRehearsal s))
  | query k i => exact (frame_query k i s).upholds

theorem upholds_takeRequest {p : Pos} (leaving : Bool) (r : Request) (h : s.occupied p = true) :
    Upholds s (s.takeRequest leaving p r) :=
  have performed : Upholds s (perform leaving p r s).1 := upholds_perform leaving r h
  performed.trans (upholds_owe _ ((performed.occupied p).trans h))

theorem upholds_takeRequests (leaving : List Pos) (l : List Arrived) (s : State) :
    Upholds s (s.takeRequests leaving l) := by
  refine Upholds.foldl _ (fun s (a : Arrived) => ?_) l s
  split
  · next h => exact upholds_takeRequest _ a.2 h
  · exact Upholds.refl s

theorem upholds_deliver (p : Pos) (r : Request) (s : State) : Upholds s (s.deliver p r) := by
  unfold State.deliver
  split
  · next h =>
    have occupied : s.occupied p = true := by
      simp only [State.hears, Bool.and_eq_true] at h
      exact h.1.1.2
    have bytes : Upholds s.nextMoment (s.nextMoment.passBytes p (2 + r.payload.length)) := upholds_setLane _ occupied
    refine Upholds.trans ?_ (upholds_finish _)
    exact ((frame_nextMoment s).upholds.trans bytes).trans (upholds_takeRequest false r ((bytes.occupied p).trans occupied))
  · exact Upholds.refl s

/-! ### Boundaries -/

theorem upholds_boundaryInputs (s : State) : Upholds s s.boundaryInputs := by
  have settle (x : Position) : x.settle.state = x.state ∧ x.settle.role = x.role := by
    unfold Position.settle
    split <;> exact ⟨rfl, rfl⟩
  have pos (p : Pos) : s.boundaryInputs.pos p = (s.pos p).settle := Tab.get_map ..
  refine ⟨fun p => ?_, fun p => ?_, rfl, fun _ _ => id, id, id⟩
  · unfold State.occupied
    rw [pos, (settle _).1]
  · rw [pos, (settle _).2]

theorem upholds_sourced (s : State) : Upholds s s.sourced := by
  refine Upholds.trans ?_ (upholds_boundarySources _ _ _)
  refine ((frame_nextMoment s).upholds.trans (upholds_boundaryInputs _)).trans ?_
  unfold State.boundaryMove
  split
  · exact upholds_moveRehearsal _ _ _
  · exact Upholds.refl _

/-- The tests and timers of a boundary leave who is EMPTY, and the role. -/
def Position.sameSeat (x y : Position) : Prop := (y.state = .empty ↔ x.state = .empty) ∧ y.role = x.role

theorem Position.sameSeat_refl (x : Position) : x.sameSeat x := ⟨Iff.rfl, rfl⟩

theorem Position.sameSeat_join (g8 : Byte) (x : Position) : x.sameSeat (x.join g8).1 := by
  unfold Position.join
  split
  · next h =>
    simp only [Bool.and_eq_true, decide_eq_true_eq] at h
    simp [Position.sameSeat, Position.toInStep, h.1.1]
  · exact x.sameSeat_refl

theorem Position.sameSeat_boundaryTest (g8 : Byte) (x : Position) : x.sameSeat (x.boundaryTest g8).1 := by
  unfold Position.boundaryTest
  split
  · next h =>
    split
    · simp [Position.sameSeat, Position.toInStep, h]
    · exact x.sameSeat_refl
  · exact x.sameSeat_join g8

theorem Position.sameSeat_takeDue (g8 : Byte) (x : Position) : x.sameSeat (x.takeDue g8).1 := by
  unfold Position.takeDue
  split
  · next h =>
    simp only [Bool.and_eq_true, decide_eq_true_eq] at h
    simp [Position.sameSeat, Position.toLagging, h.1]
  · exact ⟨Iff.rfl, rfl⟩

theorem Position.sameSeat_boundaryTake (g8 : Byte) (changed : Bool) (limit : Nat) (x : Position) :
    x.sameSeat (x.boundaryTake g8 changed limit).1 := by
  unfold Position.boundaryTake
  split
  · exact x.sameSeat_refl
  · split
    · exact ⟨Iff.rfl, rfl⟩
    · split
      · exact x.sameSeat_refl
      · split
        · exact x.sameSeat_takeDue g8
        · exact ⟨Iff.rfl, rfl⟩

theorem Position.sameSeat_boundaryLag (limit : Nat) (x : Position) : x.sameSeat (x.boundaryLag limit).1 := by
  unfold Position.boundaryLag
  split
  · next h =>
    have occupied : x.state ≠ .empty := by
      intro e
      simp [Position.lagRuns, e] at h
    dsimp only
    split
    · simp [Position.sameSeat, Position.toDropped, occupied]
    · exact ⟨Iff.rfl, rfl⟩
  · exact x.sameSeat_refl

theorem Position.sameSeat.trans {x y z : Position} (h : x.sameSeat y) (k : y.sameSeat z) : x.sameSeat z :=
  ⟨k.1.trans h.1, k.2.trans h.2⟩

theorem Position.sameSeat_boundary (g8 : Byte) (changed : Bool) (take lag : Nat) (x : Position) :
    x.sameSeat (x.boundary g8 changed take lag).1 := by
  unfold Position.boundary
  have taken := (x.sameSeat_boundaryTest g8).trans ((x.boundaryTest g8).1.sameSeat_boundaryTake g8 changed take)
  dsimp only
  split
  · exact taken
  · exact taken.trans (Position.sameSeat_boundaryLag lag _)

theorem upholds_seat {p : Pos} {x : Position} (h : (s.pos p).sameSeat x) : Upholds s (s.setPos p x) := by
  refine upholds_setPos p ?_ h.2
  unfold State.occupied
  rw [Bool.eq_iff_iff]
  simp [h.1]

theorem upholds_noteSeat {p : Pos} {x : Position} {c : Prop} [Decidable c] (h : (s.pos p).sameSeat x) :
    Upholds s (if c then (s.setPos p x).noteSlot p else s.setPos p x) :=
  Upholds.andIte (upholds_seat h) (upholds_notifyWhere _ _ _) (Upholds.refl _)

theorem upholds_boundaryRoster (changed : Bool) (s : State) : Upholds s (s.boundaryRoster changed) :=
  Upholds.foldl _ (fun _ _ => upholds_noteSeat (Position.sameSeat_boundary _ _ _ _ _)) _ s

theorem upholds_worked (s : State) : Upholds s s.worked := by
  refine Upholds.trans ?_ (upholds_boundaryRoster _ _)
  refine Upholds.trans ?_ (upholds_boundaryArm _ _)
  refine Upholds.trans ?_ (upholds_tally _)
  refine Upholds.trans ?_ (upholds_drawPass _ _)
  refine Upholds.trans ?_ (upholds_boundaryVerify _)
  exact (upholds_sourced s).trans (upholds_boundaryScale _ _)

theorem upholds_beginSecond (s : State) : Upholds s s.beginSecond :=
  (upholds_setTime (by rfl)).trans (upholds_settleLoader _)

theorem upholds_shift (p : Nat) (s : State) : Upholds s (s.setTime (s.time.shift p)) := upholds_setTime (by rfl)

theorem upholds_boundary (s : State) : Upholds s s.boundary := by
  rw [boundary_eq]
  refine Upholds.trans ?_ (frame_latch _).upholds
  refine Upholds.trans ?_ (upholds_finish _)
  refine Upholds.trans ?_ (upholds_beginSecond _)
  refine Upholds.trans ?_ (frame_checkBackup _).upholds
  exact (upholds_worked s).trans (frame_boundaryLabels _).upholds

theorem upholds_quietStart (s : State) : Upholds s s.quietStart := by
  refine Upholds.trans ?_ (upholds_finish _)
  refine Upholds.trans ?_ (upholds_resetLanes _)
  exact (frame_nextMoment s).upholds.trans (upholds_rollCalls _)

theorem upholds_beginQuiet (s : State) : Upholds s s.beginQuiet := by
  refine Upholds.ite ?_ (upholds_quietStart s)
  refine Upholds.trans ?_ (upholds_quietStart _)
  exact (Upholds.trans (upholds_setTime (by rfl)) (upholds_settleLoader _)).trans (frame_latch _).upholds

theorem upholds_realign (p : Nat) (s : State) : Upholds s (s.realign p) := by
  refine Upholds.trans ?_ (upholds_boundary _)
  refine Upholds.trans ?_ (upholds_notifyWhere _ _ _)
  refine Upholds.trans ?_ (upholds_shift p _)
  refine Upholds.trans ?_ (upholds_resetLanes _)
  exact (frame_nextMoment s).upholds.trans (upholds_rollCalls _)

theorem upholds_settle (s : State) : Upholds s s.settle := by
  unfold State.settle
  split
  · exact Upholds.refl s
  · exact upholds_boundary s
  · exact upholds_realign _ s

end

end Sys2Proof.Machine

namespace Sys2Proof.Machine

set_option Elab.async false

/-! ### A position at the end of a frame (R101 to R109) -/

/-- R101, R102: the intent that a frame with the segment `c` leaves qualified at a position. -/
def Position.nextIntent (c : CardSegment) (x : Position) : Intent :=
  (x.sIntent.feed (readIntent c.intent)).steady.getD x.intent

theorem Position.frame_departs {x : Position} {c : CardSegment} (g8 : Byte) (occupied : x.state ≠ .empty)
    (idle : x.nextIntent c = .idle) : x.frame g8 c = ((x.sample c).depart, .departed) := by
  unfold Position.nextIntent at idle
  simp [Position.frame, Position.sample, occupied, idle]

theorem Position.frame_stays {x : Position} {c : CardSegment} (g8 : Byte) (empty : x.state = .empty)
    (idle : x.nextIntent c = .idle) : x.frame g8 c = (x.sample c, .quiet) := by
  unfold Position.nextIntent at idle
  simp [Position.frame, Position.sample, empty, idle]

theorem Position.event_join (g8 : Byte) (x : Position) : (x.join g8).2 ≠ .departed := by
  unfold Position.join
  split <;> simp

theorem Position.seated_join {g8 : Byte} {x : Position} (h : x.state ≠ .empty) :
    (x.join g8).1.state ≠ .empty ∧ (x.join g8).2 ≠ .departed :=
  ⟨fun e => h ((x.sameSeat_join g8).1.mp e), x.event_join g8⟩

theorem Position.seated_newHeld {g8 : Byte} {x : Position} (h : x.state ≠ .empty) :
    (x.newHeld g8).1.state ≠ .empty ∧ (x.newHeld g8).2 ≠ .departed := by
  unfold Position.newHeld
  split
  · split
    · simp [Position.toInStep]
    · simp [h]
  · split
    · simp [Position.toLagging]
    · simp [h]
  · exact Position.seated_join h

theorem Position.seated_newIntent {i : Intent} {x : Position} (h : x.state ≠ .empty) : (x.newIntent i).state ≠ .empty := by
  unfold Position.newIntent
  split
  · exact h
  · split
    · simp [Position.toJoining]
    · exact h
  · split
    · simp [Position.toJoining]
    · exact h

/-- R103, R104: while the qualified intent is not IDLE the position is not EMPTY. -/
theorem Position.frame_seated {x : Position} {c : CardSegment} (g8 : Byte) (present : x.nextIntent c ≠ .idle) :
    (x.frame g8 c).1.state ≠ .empty ∧ (x.frame g8 c).2 ≠ .departed := by
  have intent : (x.sample c).sIntent.steady.getD (x.sample c).intent = x.nextIntent c := rfl
  unfold Position.frame
  dsimp only
  rw [intent]
  simp only [if_neg present]
  split
  · exact Position.seated_join (by simp [Position.takeFields, Position.toJoining])
  · next occupied =>
    generalize hy : (if x.nextIntent c = x.intent then (x.sample c).takeFields
      else ((x.sample c).takeFields).newIntent (x.nextIntent c)) = y
    have seated : y.state ≠ .empty := by
      rw [← hy]
      split
      · exact occupied
      · exact Position.seated_newIntent occupied
    split
    · split
      · exact ⟨seated, by simp⟩
      · exact Position.seated_join seated
    · exact Position.seated_newHeld seated

/-- R101, R155: the seat of a position at the end of a frame: the role of a line card is not read. -/
theorem frameOf_state (g8 : Byte) (p : Pos) (c : CardSegment) (x : Position) :
    (frameOf g8 p c x).1.state = (x.frame g8 c).1.state ∧ (frameOf g8 p c x).2 = (x.frame g8 c).2 := by
  unfold frameOf
  dsimp only
  split <;> exact ⟨rfl, rfl⟩

theorem frameOf_role (g8 : Byte) (p : Pos) (c : CardSegment) (x : Position) :
    (frameOf g8 p c x).1.role = if p.val < 2 then (x.frame g8 c).1.role else x.role := by
  unfold frameOf
  dsimp only
  split <;> rfl

/-- R104: a position that a frame leaves EMPTY has departed in it, or was EMPTY before. -/
theorem frameOf_empty {g8 : Byte} {p : Pos} {c : CardSegment} {x : Position}
    (line : 2 ≤ p.val → x.role = .none) (empty : x.state = .empty → x.role = .none)
    (h : (frameOf g8 p c x).1.state = .empty) :
    (frameOf g8 p c x).1.role = .none ∧ ((frameOf g8 p c x).2 = .departed ∨ x.state = .empty) := by
  rw [frameOf_role, (frameOf_state g8 p c x).2]
  rw [(frameOf_state g8 p c x).1] at h
  have idle : x.nextIntent c = .idle := by
    by_contra present
    exact (Position.frame_seated g8 present).1 h
  by_cases was : x.state = .empty
  · rw [Position.frame_stays g8 was idle]
    exact ⟨by split <;> exact empty was, .inr was⟩
  · rw [Position.frame_departs g8 was idle]
    refine ⟨?_, .inl rfl⟩
    split
    · rfl
    · exact line (by omega)

/-! ### The entries of a position that departs (R44) -/

/-- R44: an entry after the departure of position `p`. -/
def Source.departed (p : Pos) (e : Source) : Source :=
  if (e.key.any fun k => decide (k.pos = p)) && decide (e.state ≠ .free) then { e with state := .stale } else e

/-- The entries of a list worked one after the other, each by itself. -/
theorem source_foldEntries {f : State → Fin 16 → State} {g : Source → Source}
    (h : ∀ s i j, (f s j).source i = if j = i then g (s.source i) else s.source i) {l : List (Fin 16)}
    (distinct : l.Nodup) (s : State) (i : Fin 16) :
    (l.foldl f s).source i = if i ∈ l then g (s.source i) else s.source i := by
  induction l generalizing s with
  | nil => rfl
  | cons j l ih =>
    obtain ⟨fresh, distinct⟩ := List.nodup_cons.mp distinct
    rw [List.foldl_cons, ih distinct, h]
    by_cases hj : j = i
    · subst hj
      simp [fresh]
    · simp [hj, Ne.symm hj]

theorem source_departSources (p : Pos) (s : State) (i : Fin 16) :
    (s.departSources p).source i = (s.source i).departed p := by
  unfold State.departSources
  rw [source_foldEntries (g := Source.departed p) _ (by decide), if_pos (mem_allEntries i)]
  intro s i j
  dsimp only
  cases hk : (s.source j).key with
  | none =>
    show s.source i = _
    split
    · next e => subst e; simp [Source.departed, hk]
    · rfl
  | some k =>
    dsimp only
    split
    · next h =>
      rw [source_putSource]
      split
      · next e => subst e; simp only [Source.departed, hk, Option.any_some, h, if_true]
      · rfl
    · next h =>
      split
      · next e =>
        subst e
        simp only [Source.departed, hk, Option.any_some, h, Bool.false_eq_true, if_false]
      · rfl

theorem not_live_departed {p : Pos} {e : Source} {k : SourceKey} (key : (e.departed p).key = some k) (at_ : k.pos = p) :
    ¬ (e.departed p).isLive := by
  unfold Source.departed at key ⊢
  split
  · exact not_isLive
  · next h =>
    rw [if_neg h] at key
    have free : e.state = .free := by simpa [key, at_] using h
    simp [Source.isLive, free]

/-- A notice reaches no EMPTY position. -/
theorem lane_notifyWhere {who : Pos → Bool} {n : Notice} {s : State} {p : Pos} (h : s.occupied p = false) :
    (s.notifyWhere who n).lane p = s.lane p := by
  simp [State.notifyWhere, State.lane, h]

theorem lane_putSource {i : Fin 16} {e : Source} {s : State} {p : Pos} (h : s.occupied p = false) :
    (s.putSource i e).lane p = s.lane p := by
  unfold State.putSource State.noteSource
  dsimp only
  split <;> split <;> first | exact lane_notifyWhere h | rfl

theorem roster_departSources (p : Pos) (s : State) : (s.departSources p).roster = s.roster :=
  frame_departSources p s .roster (by decide)

theorem occupied_of_roster {s t : State} (h : t.roster = s.roster) (p : Pos) : t.occupied p = s.occupied p := by
  unfold State.occupied State.pos
  rw [h]

/-- An operation on every member of a list leaves the lane of an EMPTY position where each does. -/
theorem lane_foldl {α : Type} {f : State → α → State} {q : Pos} (l : List α)
    (h : ∀ s x, s.occupied q = false → (f s x).occupied q = false ∧ (f s x).lane q = s.lane q) {s : State}
    (empty : s.occupied q = false) : (l.foldl f s).lane q = s.lane q := by
  induction l generalizing s with
  | nil => rfl
  | cons x l ih =>
    obtain ⟨empty', lane⟩ := h s x empty
    rw [List.foldl_cons, ih empty', lane]

theorem occupied_putSource (i : Fin 16) (e : Source) (s : State) (p : Pos) : (s.putSource i e).occupied p = s.occupied p :=
  occupied_of_roster (frame_putSource i e s .roster (by decide)) p

theorem lane_departSources {p q : Pos} {s : State} (h : s.occupied q = false) :
    (s.departSources p).lane q = s.lane q := by
  refine lane_foldl allEntries (fun s i empty => ?_) h
  dsimp only
  split
  · split
    · exact ⟨(occupied_putSource _ _ s q).trans empty, lane_putSource empty⟩
    · exact ⟨empty, rfl⟩
  · exact ⟨empty, rfl⟩


/-! ### The departures of a frame (R44, R104, R140) -/

/-- R104: what one departure does outside the Roster. -/
def State.leave (s : State) (p : Pos) : State := ((s.clearLane p).departSources p).departLoader p

theorem departures_eq (prompted : Bool) (gone : List Pos) (s : State) :
    s.departures prompted gone = if prompted then (gone.foldl State.leave s).tally else gone.foldl State.leave s := rfl

theorem upholds_leave (s : State) (p : Pos) : Upholds s (s.leave p) :=
  ((upholds_clearLane p s).trans (upholds_departSources p _)).trans (upholds_departLoader p _)

theorem frame_leave (s : State) (p : Pos) : Unchanged [.sources, .sched, .lanes, .loader] s (s.leave p) :=
  ((frame_clearLane p s).mono.trans (frame_departSources p _).mono).trans (frame_departLoader p _).mono

theorem source_leave (s : State) (p : Pos) (i : Fin 16) : (s.leave p).source i = (s.source i).departed p := by
  unfold State.leave
  rw [(frame_departLoader p _).source_eq, source_departSources, (frame_clearLane p s).source_eq]

/-- R162: the lane and board of start-up, of an EMPTY position that departs. -/
theorem lane_leave {s : State} {p : Pos} (h : s.occupied p = false) : (s.leave p).lane p = .initial := by
  unfold State.leave
  have cleared : (s.clearLane p).lane p = .initial := by simp [State.clearLane]
  have loader (u : State) : (u.departLoader p).lane p = u.lane p := by
    unfold State.lane
    rw [show (u.departLoader p).lanes = u.lanes from frame_departLoader p u .lanes (by decide)]
  rw [loader, lane_departSources (p := p) (s := s.clearLane p) h, cleared]

/-- R140: the load of a claimer that departs is given up. -/
theorem claim_departLoader (p : Pos) (s : State) : ∀ c ∈ (s.departLoader p).loader.claimer, ctlPos c ≠ p := by
  unfold State.departLoader
  intro c hc
  split at hc
  · split at hc
    · cases hc
    · next other ne => rw [other] at hc; cases hc; exact ne
  · next none => rw [none] at hc; cases hc

theorem clearAt_leave {s : State} {p : Pos} (h : s.occupied p = false) : (s.leave p).clearAt p := by
  have claim : ∀ c ∈ (s.leave p).loader.claimer, ctlPos c ≠ p := by
    unfold State.leave
    exact claim_departLoader p _
  refine ⟨lane_leave h, claim, fun i k key at_ => ?_⟩
  rw [source_leave] at key ⊢
  exact not_live_departed key at_

/-- The EMPTY positions of a list are clear once all of it has departed. -/
theorem clearAt_foldLeave {gone : List Pos} {s : State} {p : Pos} (h : s.occupied p = false)
    (member : p ∈ gone ∨ s.clearAt p) : (gone.foldl State.leave s).clearAt p := by
  induction gone generalizing s with
  | nil => exact member.resolve_left (by simp)
  | cons q gone ih =>
    rw [List.foldl_cons]
    refine ih (((upholds_leave s q).occupied p).trans h) ?_
    rcases member with member | clear
    · rcases List.mem_cons.mp member with rfl | member
      · exact .inr (clearAt_leave h)
      · exact .inl member
    · exact .inr ((upholds_leave s q).clear p h clear)

/-! ### The end of a frame (R148) -/

/-- An EMPTY position is clear and has no role; a line card has none (R155). -/
def State.seatsClear (s : State) : Prop :=
  (∀ p, s.occupied p = false → s.clearAt p ∧ (s.pos p).role = .none) ∧ ∀ p : Pos, 2 ≤ p.val → (s.pos p).role = .none

theorem State.emptyIsClear.seats {s : State} (h : s.emptyIsClear) : s.seatsClear := by
  rw [State.emptyIsClear_iff] at h
  obtain ⟨empty, line⟩ := h
  exact ⟨fun p hp => ⟨(empty p hp).1, (empty p hp).2.1⟩, line⟩

theorem Upholds.seatsClear {s t : State} (h : Upholds s t) (e : s.seatsClear) : t.seatsClear := by
  obtain ⟨empty, line⟩ := e
  refine ⟨fun p hp => ?_, fun p hp => (h.role p).trans (line p hp)⟩
  rw [h.occupied] at hp
  obtain ⟨clear, role⟩ := empty p hp
  exact ⟨h.clear p hp clear, (h.role p).trans role⟩

section
variable (segs : List (BitVec 48)) (s before : State)

/-- The Roster's records at the end of a frame, before the departures. -/
def State.seated : State := s.setRoster (.build 12 fun p => (s.frameAt segs p).1)

/-- R104: the positions that depart in a frame. -/
def State.gone : List Pos := s.withEvent segs .departed

/-- R116: the positions of which a frame's end tells. -/
def State.tells : List Pos := allPos.filter fun p => decide ((s.frameAt segs p).2 ≠ .quiet)

/-- R44, R104: the end of a frame as the departures have worked it. -/
def State.parted : State := (s.seated segs).departures (s.departuresPrompt segs (s.gone segs) before) (s.gone segs)

theorem frameRoster_eq : s.frameRoster segs before = (s.tells segs).foldl (fun s p => s.noteSlot p) (s.parted segs before) := rfl

theorem pos_seated (p : Pos) : (s.seated segs).pos p = (s.frameAt segs p).1 := Tab.get_build _ _

theorem mem_allPos : ∀ p : Pos, p ∈ allPos := by decide

theorem mem_gone (p : Pos) : p ∈ s.gone segs ↔ (s.frameAt segs p).2 = .departed := by
  simp [State.gone, State.withEvent, mem_allPos]

theorem upholds_parted : Upholds (s.seated segs) (s.parted segs before) := by
  unfold State.parted
  rw [departures_eq]
  have all : Upholds (s.seated segs) ((s.gone segs).foldl State.leave (s.seated segs)) := Upholds.foldl _ upholds_leave _ _
  exact Upholds.ite (all.trans (upholds_tally _)) all

theorem seatsClear_parted (h : s.seatsClear) : (s.parted segs before).seatsClear := by
  obtain ⟨empty, line⟩ := h
  have seats : ∀ p, (s.seated segs).occupied p = false →
      ((s.seated segs).pos p).role = .none ∧ (p ∈ s.gone segs ∨ s.clearAt p) := by
    intro p hp
    have hp : (s.frameAt segs p).1.state = .empty := by
      unfold State.occupied at hp
      rw [pos_seated] at hp
      simpa using hp
    have was (e : (s.pos p).state = .empty) : s.clearAt p ∧ (s.pos p).role = .none := empty p (by simp [State.occupied, e])
    obtain ⟨role, event⟩ := frameOf_empty (line p) (fun e => (was e).2) hp
    rw [pos_seated]
    exact ⟨role, event.imp (mem_gone segs s p).mpr fun e => (was e).1⟩
  have left : ((s.gone segs).foldl State.leave (s.seated segs)).seatsClear := by
    have upholds : Upholds (s.seated segs) ((s.gone segs).foldl State.leave (s.seated segs)) :=
      Upholds.foldl _ upholds_leave _ _
    refine ⟨fun p hp => ?_, fun p hp => ?_⟩
    · rw [upholds.occupied] at hp
      obtain ⟨role, member⟩ := seats p hp
      exact ⟨clearAt_foldLeave hp member, (upholds.role p).trans role⟩
    · rw [upholds.role, pos_seated]
      unfold State.frameAt
      rw [frameOf_role, if_neg (by omega)]
      exact line p hp
  unfold State.parted
  rw [departures_eq]
  split
  · exact (upholds_tally _).seatsClear left
  · exact left

theorem upholds_noteSlots (l : List Pos) (s : State) : Upholds s (l.foldl (fun s p => s.noteSlot p) s) :=
  Upholds.foldl _ (fun s _ => upholds_notifyWhere _ _ s) _ _

/-- R4 to R8: the trackers have no say in the matter. -/
theorem upholds_frameMarks : Upholds s (s.frameMarks segs before) := upholds_setTime (by rfl)

theorem seatsClear_frameRoster (h : s.seatsClear) : (s.frameRoster segs before).seatsClear := by
  rw [frameRoster_eq]
  exact (upholds_noteSlots _ _).seatsClear (seatsClear_parted segs s before h)

/-- R11 to R13: a lead holder is not EMPTY. -/
theorem occupied_nextHolder {s : State} {c : Ctl} (h : s.nextHolder = some c) : s.occupied (ctlPos c) = true := by
  have wants {c : Ctl} (h : s.wantsLead c = true) : s.occupied (ctlPos c) = true := by
    simp only [State.wantsLead, Bool.and_eq_true] at h
    exact h.2
  unfold State.nextHolder at h
  split at h <;> split at h
  · next w => cases h; exact wants w
  · split at h
    · next w => cases h; exact wants w
    · cases h
  · next w => cases h; exact wants w
  · split at h
    · next w => cases h; exact wants w
    · cases h

theorem arbitrate_effect : (s.arbitrate).time.holder = s.nextHolder ∧ (s.arbitrate).roster = s.roster := by
  unfold State.arbitrate
  dsimp only
  split <;> exact ⟨rfl, rfl⟩

theorem clearAt_arbitrate {p : Pos} (empty : s.occupied p = false) (clear : s.clearAt p) : s.arbitrate.clearAt p := by
  unfold State.arbitrate
  dsimp only
  split
  · exact clear
  · exact (upholds_notifyWhere _ _ _).clear p empty clear

theorem holdsLead_arbitrate {p : Pos} (empty : s.occupied p = false) : s.arbitrate.holdsLead p = false := by
  unfold State.holdsLead
  rw [(arbitrate_effect s).1]
  cases hc : s.nextHolder with
  | none => rfl
  | some c =>
    have occupied := occupied_nextHolder hc
    simp only [decide_eq_false_iff_not]
    rintro rfl
    rw [empty] at occupied
    cases occupied

theorem emptyIsClear_arbitrate (h : s.seatsClear) : s.arbitrate.emptyIsClear := by
  obtain ⟨-, roster⟩ := arbitrate_effect s
  have pos (p : Pos) : s.arbitrate.pos p = s.pos p := by unfold State.pos; rw [roster]
  rw [State.emptyIsClear_iff]
  refine ⟨fun p hp => ?_, fun p hp => (congrArg Position.role (pos p)).trans (h.2 p hp)⟩
  rw [occupied_of_roster roster] at hp
  obtain ⟨clear, role⟩ := h.1 p hp
  exact ⟨clearAt_arbitrate s hp clear, (congrArg Position.role (pos p)).trans role, holdsLead_arbitrate s hp⟩

/-- R104, R162: at the end of a frame an EMPTY position is clear. -/
theorem emptyIsClear_frameEvents (h : s.seatsClear) : (s.frameEvents segs before).emptyIsClear := by
  refine (upholds_expireLoader _).emptyIsClear ?_
  refine (upholds_frameRehearsal _).emptyIsClear ?_
  exact emptyIsClear_arbitrate _ ((upholds_frameMarks _ _ _).seatsClear (seatsClear_frameRoster segs s before h))

end

/-- The operation keeps what holds of EMPTY positions, of the tags and of the keys. -/
structure Maintains (s t : State) : Prop where
  empties : s.emptyIsClear → t.emptyIsClear
  tags : s.tagsDistinct → t.tagsDistinct
  keys : s.keysDistinct → t.keysDistinct

section
variable {s t u : State}

theorem Upholds.maintains (h : Upholds s t) : Maintains s t := ⟨h.emptyIsClear, h.tags, h.keys⟩

theorem Maintains.refl (s : State) : Maintains s s := ⟨id, id, id⟩

theorem Maintains.trans (h : Maintains s t) (k : Maintains t u) : Maintains s u :=
  ⟨k.empties ∘ h.empties, k.tags ∘ h.tags, k.keys ∘ h.keys⟩

theorem Maintains.ite {c : Prop} [Decidable c] (h : Maintains s t) (k : Maintains s u) :
    Maintains s (if c then t else u) := by
  split <;> assumption

theorem maintains_arbitrate (s : State) : (s.tagsDistinct → s.arbitrate.tagsDistinct) ∧
    (s.keysDistinct → s.arbitrate.keysDistinct) := by
  unfold State.arbitrate
  dsimp only
  split
  · exact ⟨id, id⟩
  · have notified := upholds_notifyWhere (fun p => decide (p.val < 2)) (.leadChanged s.nextHolder)
      (s.setTime { s.time with holder := s.nextHolder, claim := s.standingClaim s.nextHolder })
    exact ⟨notified.tags, notified.keys⟩

theorem maintains_frameEvents (segs : List (BitVec 48)) (s before : State) : Maintains s (s.frameEvents segs before) := by
  have marked : Upholds (s.seated segs) ((s.frameRoster segs before).frameMarks segs before) :=
    (frameRoster_eq segs s before ▸ (upholds_parted segs s before).trans (upholds_noteSlots _ _)).trans
      (upholds_frameMarks segs _ before)
  have ended (u : State) : Upholds u u.frameRehearsal.expireLoader :=
    (upholds_frameRehearsal u).trans (upholds_expireLoader _)
  obtain ⟨tags, keys⟩ := maintains_arbitrate ((s.frameRoster segs before).frameMarks segs before)
  exact ⟨fun h => emptyIsClear_frameEvents segs s before h.seats, fun h => (ended _).tags (tags (marked.tags h)),
    fun h => (ended _).keys (keys (marked.keys h))⟩

/-- R162: a lane whose position is EMPTY hears nothing, and completes no parcel. -/
theorem upholds_hearLanes (segs : List (BitVec 48)) (s : State) : Upholds s (s.hearLanes segs) := by
  refine Unchanged.upholdsLanes (frame_setLanes _ s) fun p empty lane => ?_
  have heard : (s.hearLanes segs).lane p = (laneFrame s.time.frame (s.occupied p) (segmentOf segs p) (s.lane p)).1 :=
    Tab.get_build _ _
  simpa [heard, laneFrame, empty] using lane

theorem occupied_of_arrivals {segs : List (BitVec 48)} {a : Pos × Byte × List Byte} (h : a ∈ s.arrivals segs) :
    s.occupied a.1 = true := by
  obtain ⟨p, -, hp⟩ := List.mem_filterMap.mp h
  obtain ⟨b, hb, rfl⟩ := Option.map_eq_some_iff.mp hp
  by_contra empty
  simp [laneFrame, empty] at hb

theorem upholds_answerForms {l : List (Pos × Byte × List Byte)} (h : ∀ a ∈ l, s.occupied a.1 = true) :
    Upholds s (s.answerForms l) := by
  induction l generalizing s with
  | nil => exact Upholds.refl s
  | cons a l ih =>
    have answered : Upholds s (match Request.parse a.2.1 a.2.2 with
        | .ok _ => s
        | .error c => s.owe a.1 (formResponse a.2.1 c)) := by
      split
      · exact Upholds.refl s
      · exact upholds_owe _ (h a (List.mem_cons_self ..))
    exact answered.trans (ih fun b hb => (answered.occupied b.1).trans (h b (List.mem_cons_of_mem _ hb)))

/-- The lanes as the frame leaves them, before the requests. -/
def State.heard (segs : List (BitVec 48)) (s : State) : State := ((s.hearLanes segs).answerForms (s.arrivals segs)).tickLoader

theorem upholds_heard (segs : List (BitVec 48)) (s : State) : Upholds s (s.heard segs) := by
  have lanes := upholds_hearLanes segs s
  exact (lanes.trans (upholds_answerForms fun a ha => (lanes.occupied a.1).trans (occupied_of_arrivals ha))).trans
    (upholds_tickLoader _)

theorem upholds_advanceFrame (realign : Bool) (s : State) : Upholds s (s.setTime (s.time.advanceFrame realign)) := by
  refine upholds_setTime ?_
  unfold TimeBase.advanceFrame
  split
  · rfl
  · split <;> rfl

theorem maintains_frameWork (segs : List (BitVec 48)) (order : FrameOrder) (s : State) :
    Maintains s (s.frameWork segs order) := by
  unfold State.frameWork
  dsimp only
  refine Maintains.trans ?_ (upholds_advanceFrame _ _).maintains
  refine Maintains.trans ?_ (upholds_settleLoader _).maintains
  refine Maintains.trans ?_ (upholds_takeRequests _ _ _).maintains
  refine Maintains.trans ?_ (upholds_takeRequests _ _ _).maintains
  have heard : Maintains s (s.heard segs) := (upholds_heard segs s).maintains
  exact Maintains.ite
    (heard.trans ((upholds_takeRequests _ _ _).maintains.trans (maintains_frameEvents _ _ _)))
    (heard.trans ((maintains_frameEvents _ _ _).trans (upholds_takeRequests _ _ _).maintains))

theorem upholds_openFrame (s : State) : Upholds s s.openFrame := by
  have finish := upholds_finish s
  have arbiters : Upholds s.finish s.finish.arbiters := Upholds.foldl _ (fun s p => upholds_arbiter p s) _ _
  unfold State.openFrame
  split
  · refine Upholds.ite (finish.trans ((frame_latch _).upholds.trans (upholds_quietStart _))) ?_
    exact ((finish.trans arbiters).trans (upholds_finish _)).trans (frame_latch _).upholds
  · exact finish

theorem maintains_frameEnd (segs : List (BitVec 48)) (order : FrameOrder) (s : State) :
    Maintains s (frameEnd segs order s) := by
  refine Maintains.ite ?_ (Maintains.refl s)
  refine Maintains.trans ?_ (upholds_openFrame _).maintains
  exact ((upholds_settle s).trans (frame_nextMoment _).upholds).maintains.trans (maintains_frameWork _ _ _)

/-! ### Start-up and commands -/

/-- R34, R100, R162: start-up makes every position EMPTY and clear, and every entry FREE. -/
theorem maintains_startFrom (c : Retained) (s : State) : Maintains s (s.startFrom c) := by
  have pos (p : Pos) : (s.startFrom c).pos p = .initial (c.positions.get p).1 (c.positions.get p).2 := Tab.get_map ..
  have source (i : Fin 16) : (s.startFrom c).source i = .initial := Tab.get_fill ..
  refine ⟨fun _ => ?_, fun _ => ⟨List.nodup_nil, fun k hk => by cases hk⟩, fun _ i j h => ?_⟩
  · rw [State.emptyIsClear_iff]
    have clear (p : Pos) : (s.startFrom c).clearAt p := by
      refine ⟨Tab.get_fill .., fun x hx => by simp [State.startFrom, Loader.initial] at hx, fun i k hk => ?_⟩
      rw [source] at hk
      cases hk
    exact ⟨fun p _ => ⟨clear p, by rw [pos]; rfl, rfl⟩, fun p _ => by rw [pos]; rfl⟩
  · rw [source] at h
    cases h

theorem maintains_startUp (s : State) : Maintains s s.startUp := by
  have moment (u : State) : Upholds u { u with moment := 0 } := ⟨fun _ => rfl, fun _ => rfl, rfl, fun _ _ => id, id, id⟩
  unfold State.startUp
  exact ((maintains_startFrom _ s).trans (upholds_boundary _).maintains).trans (moment _).maintains

theorem maintains_next {u : State} (h : Maintains s u) (k : (.next u : Result) = .next t) : Maintains s t := by
  cases k
  exact h

theorem maintains_nextIte {c : Prop} [Decidable c] {u v : State} (h : Maintains s u) (k : Maintains s v)
    (e : (if c then .next u else .next v : Result) = .next t) : Maintains s t := by
  split at e <;> cases e <;> assumption

theorem maintains_secondBoundary (h : execSecondBoundary s = .next t) : Maintains s t := by
  unfold execSecondBoundary at h
  split at h
  · split at h
    · exact maintains_next (upholds_realign _ s).maintains h
    · exact maintains_next (upholds_boundary s).maintains h
    · exact maintains_next ((upholds_quietStart s).trans (upholds_boundary _)).maintains h
  · exact maintains_next (Maintains.refl s) h

theorem upholds_strike (s : State) : Upholds s s.strike := by
  unfold State.strike
  split
  · next c _ => exact upholds_setTime (by cases c <;> rfl)
  · exact Upholds.refl s

theorem maintains_realignment (h : execRealignment s = .next t) : Maintains s t := by
  unfold execRealignment at h
  split at h
  · split at h
    · exact maintains_next (upholds_realign _ s).maintains h
    · exact maintains_next (Maintains.refl s) h
    · split at h
      · exact maintains_next ((upholds_strike s).trans (upholds_realign _ _)).maintains h
      · exact maintains_next (Maintains.refl s) h
  · exact maintains_next (Maintains.refl s) h

/-- R160, R162: a lane hears parcels where its position is not EMPTY. -/
theorem occupied_of_hears {p : Pos} (h : s.hears p = true) : s.occupied p = true := by
  simp only [State.hears, Bool.and_eq_true] at h
  exact h.1.2

/-- An event of one moment. -/
theorem maintains_event {f : State → State} (h : Upholds s.nextMoment (f s.nextMoment)) :
    Maintains s (f s.nextMoment).finish :=
  (((frame_nextMoment s).upholds.trans h).trans (upholds_finish _)).maintains

theorem upholds_oweBytes {p : Pos} (n : Nat) (r : Response) (h : s.hears p = true) :
    Upholds s.nextMoment ((s.nextMoment.passBytes p n).owe p r) :=
  have bytes : Upholds s.nextMoment (s.nextMoment.passBytes p n) := upholds_setLane _ (occupied_of_hears h)
  bytes.trans (upholds_owe _ ((bytes.occupied p).trans (occupied_of_hears h)))

theorem maintains_badForm {p : Pos} {bytes : List Byte} (h : execBadForm p bytes s = .next t) : Maintains s t := by
  unfold execBadForm at h
  split at h
  · next hears _ =>
    exact maintains_next (maintains_event (f := fun u => (u.passBytes p _).owe p _) (upholds_oweBytes _ _ hears)) h
  · exact maintains_next (Maintains.refl s) h

theorem maintains_unknownKind {p : Pos} {kind : Byte} {payload : List Byte}
    (h : execUnknownKind p kind payload s = .next t) : Maintains s t := by
  unfold execUnknownKind at h
  split at h
  · next hears =>
    simp only [Bool.and_eq_true] at hears
    exact maintains_next (maintains_event (f := fun u => (u.passBytes p _).owe p _) (upholds_oweBytes _ _ hears.1.1)) h
  · exact maintains_next (Maintains.refl s) h

theorem maintains_transferBegin {p : Pos} (h : execTransferBegin p s = .next t) : Maintains s t := by
  have arbiter : Maintains s (s.nextMoment.arbiter p).finish := maintains_event (upholds_arbiter p _)
  exact maintains_nextIte (Maintains.ite arbiter (arbiter.trans (frame_latchOut p _).upholds.maintains)) (Maintains.refl s) h

/-- R161: a lane without a transfer takes nothing. -/
theorem upholds_takeAll (p : Pos) (s : State) : Upholds s (s.setLane p (s.lane p).takeAll) := by
  refine (frame_setLane p _ s).upholdsLanes fun q _ lane => ?_
  rw [State.setLane_lane]
  split
  · next e => subst e; rw [lane]; rfl
  · exact lane

theorem upholds_staleEntry (i : Fin 16) (s : State) : Upholds s (staleEntry i s) := by
  unfold staleEntry
  refine Upholds.ite (upholds_prompt (upholds_putSame ?_ fun h => live_of_age (e := (s.source i).tick) h)) (Upholds.refl s)
  unfold Source.age
  split <;> rfl

theorem upholds_takeCheckDue (p : Pos) (s : State) : Upholds s (takeCheckDue p s) := by
  unfold takeCheckDue
  split
  · exact Upholds.ite (upholds_noteSeat (Position.sameSeat_takeDue _ _)) (Upholds.refl s)
  · exact Upholds.refl s

theorem upholds_lagLimitReached (p : Pos) (s : State) : Upholds s (lagLimitReached p s) :=
  Upholds.ite ((upholds_seat (Position.sameSeat_boundaryLag _ _)).trans (upholds_notifyWhere _ _ _)) (Upholds.refl s)

/-- What every command maintains. -/
theorem maintains_exec {c : Instr} (h : exec c s = .next t) : Maintains s t := by
  cases c with
  | startUp => exact maintains_next ((frame_setPins _ s).upholds.maintains.trans (maintains_startUp _)) h
  | resetAssert clk =>
    exact maintains_nextIte ((upholds_setTime (by rfl)).trans (frame_setPins _ _).upholds).maintains
      (frame_setPins _ s).upholds.maintains h
  | mainPowerLoss => exact maintains_next (frame_setPins _ s).upholds.maintains h
  | vbakLow n => exact maintains_next ((frame_setStore _ s).upholds.trans (frame_setPins _ _).upholds).maintains h
  | refclkStop clk =>
    exact maintains_nextIte ((upholds_setTime (by rfl)).trans (frame_setPins _ _).upholds).maintains
      (frame_setPins _ s).upholds.maintains h
  | refclkResume => exact maintains_next (frame_setPins _ s).upholds.maintains h
  | frameEnd segs order => exact maintains_next (maintains_frameEnd segs order s) h
  | markMiss c => exact maintains_nextIte (maintains_event (upholds_markMiss c _)) (Maintains.refl s) h
  | secondBoundary => exact maintains_secondBoundary h
  | stale i => exact maintains_nextIte (maintains_event (upholds_staleEntry i _)) (Maintains.refl s) h
  | takeCheckDue p => exact maintains_nextIte (maintains_event (upholds_takeCheckDue p _)) (Maintains.refl s) h
  | lagLimitReached p => exact maintains_nextIte (maintains_event (upholds_lagLimitReached p _)) (Maintains.refl s) h
  | quietFrames => exact maintains_nextIte (upholds_beginQuiet s).maintains (Maintains.refl s) h
  | realignment => exact maintains_realignment h
  | loadTimedOut =>
    exact maintains_nextIte (maintains_event (Upholds.ite (upholds_timeOutLoad _) (Upholds.refl _))) (Maintains.refl s) h
  | transferBegin p => exact maintains_transferBegin h
  | transferComplete p =>
    exact maintains_nextIte (maintains_event (f := fun u => u.setLane p (u.lane p).takeAll) (upholds_takeAll p _))
      (Maintains.refl s) h
  | badForm p bytes => exact maintains_badForm h
  | unknownKind p kind payload => exact maintains_unknownKind h
  | announce p o d k i => exact maintains_next (upholds_deliver p (.announce o d k i) s).maintains h
  | setTime p x => exact maintains_next (upholds_deliver p (.setTime x) s).maintains h
  | setOffset p v => exact maintains_next (upholds_deliver p (.setOffset v) s).maintains h
  | confirm p id => exact maintains_next (upholds_deliver p (.confirm id) s).maintains h
  | withdraw p id => exact maintains_next (upholds_deliver p (.withdraw id) s).maintains h
  | shiftZone p z o i => exact maintains_next (upholds_deliver p (.shiftZone z o i) s).maintains h
  | configure p k v => exact maintains_next (upholds_deliver p (.configure k v) s).maintains h
  | setPosition p q m z => exact maintains_next (upholds_deliver p (.setPosition q m z) s).maintains h
  | muteSourceMute p q o => exact maintains_next (upholds_deliver p (.muteSource q o 0) s).maintains h
  | muteSourceUnmute p q o => exact maintains_next (upholds_deliver p (.muteSource q o 1) s).maintains h
  | clearScale p => exact maintains_next (upholds_deliver p .clearScale s).maintains h
  | rulesetStart p l u n => exact maintains_next (upholds_deliver p (.rulesetStart l u n) s).maintains h
  | rulesetData p b => exact maintains_next (upholds_deliver p (.rulesetData b) s).maintains h
  | rulesetFinish p => exact maintains_next (upholds_deliver p .rulesetFinish s).maintains h
  | rulesetAbandon p => exact maintains_next (upholds_deliver p .rulesetAbandon s).maintains h
  | rehearse p n => exact maintains_next (upholds_deliver p (.rehearse n) s).maintains h
  | rehearsalCancel p => exact maintains_next (upholds_deliver p .rehearsalCancel s).maintains h
  | querySchedule p i => exact maintains_next (upholds_deliver p (.query 0 i) s).maintains h
  | querySource p i => exact maintains_next (upholds_deliver p (.query 1 i) s).maintains h
  | queryPosition p i => exact maintains_next (upholds_deliver p (.query 2 i) s).maintains h
  | queryHistory p i => exact maintains_next (upholds_deliver p (.query 3 i) s).maintains h
  | queryConfig p i => exact maintains_next (upholds_deliver p (.query 4 i) s).maintains h
  | queryZone p i => exact maintains_next (upholds_deliver p (.query 5 i) s).maintains h
  | queryRuleset p i => exact maintains_next (upholds_deliver p (.query 6 i) s).maintains h
  | queryRehearsal p i => exact maintains_next (upholds_deliver p (.query 7 i) s).maintains h

theorem maintains_step (h : step s = .next t) : Maintains s t := by
  unfold step at h
  split at h
  · exact maintains_next (Maintains.refl s) h
  · have queue (q : List Instr) : Upholds s (s.withQueue q) := ⟨fun _ => rfl, fun _ => rfl, rfl, fun _ _ => id, id, id⟩
    exact (queue _).maintains.trans (maintains_exec h)

end

/-- Settles O6: every command keeps the tags of the pool and the keys of the Source Table distinct (`Maintains`), by one lemma for
each operation of the model. -/
theorem tagsStayDistinct : Obligations.TagsStayDistinct :=
  ⟨fun _ _ tags h => (maintains_step h).tags tags, fun _ _ keys h => (maintains_step h).keys keys⟩

/-- Settles O9: every operation leaves an EMPTY position clear (`Upholds`); a frame's end, in which positions depart, clears them
before the lead is arbitrated. -/
theorem emptyPositionsStayClear : Obligations.EmptyPositionsStayClear :=
  fun _ _ empties h => (maintains_step h).empties empties

end Sys2Proof.Machine

namespace Sys2Proof.Machine

set_option Elab.async false

/-! ### What a request reads of the state

A request reads neither the frame and its trackers, nor the samplers, nor the latencies of a rehearsal, nor the lanes, the store
and what the frame shows; and the boards have no say but in the boards. `State.core` leaves these out. -/

/-- A position without its samplers. -/
def Position.core (x : Position) : Position :=
  { x with sIntent := ⟨none, 0⟩, sRole := ⟨none, 0⟩, sHeld := ⟨none, 0⟩, sReady := ⟨none, 0⟩ }

/-- R123: of the detail of a position, the roll call. -/
def Detail.core (d : Detail) : Detail := { d with latency := 0, reached := false }

/-- What requests read: `boards` keeps the boards, `latencies` the latencies of a rehearsal. -/
def State.core (boards latencies : Bool) (s : State) : State :=
  { s with
    time := { TimeBase.initial with
      due := s.time.due, t := s.time.t, pendingTime := s.time.pendingTime, holder := s.time.holder }
    rehearsal := { s.rehearsal with
      detail := if latencies then s.rehearsal.detail else s.rehearsal.detail.map Detail.core }
    roster := s.roster.map Position.core
    lanes := s.lanes.map fun l => { Lane.initial with board := if boards then l.board else [] }
    store := { copy := .initial, good := true }
    bus := .initial }

/-- Two states are alike in all that requests read. -/
def Alike (boards latencies : Bool) (s t : State) : Prop := s.core boards latencies = t.core boards latencies

section
variable {b l : Bool} {s t u v : State}

theorem Alike.refl (s : State) : Alike b l s s := rfl

theorem Alike.symm (h : Alike b l s t) : Alike b l t s := Eq.symm h

theorem Alike.trans (h : Alike b l s t) (k : Alike b l t u) : Alike b l s u := Eq.trans h k

/-- An operation that works on the core as on the state keeps states alike. -/
theorem Alike.map (h : Alike b l s t) (f : State → State)
    (hf : ∀ s : State, f (s.core b l) = (f s).core b l := by intro s; rfl) : Alike b l (f s) (f t) := by
  unfold Alike at h ⊢
  rw [← hf, ← hf, h]

/-- What is read off the core is the same in states alike. -/
theorem Alike.read {β : Type} (h : Alike b l s t) (f : State → β)
    (hf : ∀ s : State, f (s.core b l) = f s := by intro s; rfl) : f s = f t := by
  rw [← hf s, ← hf t, show s.core b l = t.core b l from h]

theorem Alike.ite {c d : Prop} [Decidable c] [Decidable d] (e : c ↔ d) (h : c → d → Alike b l s t)
    (k : ¬ c → ¬ d → Alike b l u v) : Alike b l (if c then s else u) (if d then t else v) := by
  by_cases hc : c
  · rw [if_pos hc, if_pos (e.mp hc)]
    exact h hc (e.mp hc)
  · rw [if_neg hc, if_neg (mt e.mpr hc)]
    exact k hc (mt e.mpr hc)

theorem Alike.foldl {α : Type} {f g : State → α → State} (step : ∀ {s t} x, Alike b l s t → Alike b l (f s x) (g t x))
    (xs : List α) (h : Alike b l s t) : Alike b l (xs.foldl f s) (xs.foldl g t) := by
  induction xs generalizing s t with
  | nil => exact h
  | cons x xs ih => exact ih (step x h)

theorem Alike.pos (h : Alike b l s t) (p : Pos) : (s.pos p).core = (t.pos p).core := by
  have := congrArg (fun u : State => u.pos p) h
  simpa [State.core, State.pos] using this

theorem Alike.occupied (h : Alike b l s t) (p : Pos) : s.occupied p = t.occupied p := by
  have := congrArg Position.state (h.pos p)
  unfold State.occupied
  rw [show (s.pos p).state = (t.pos p).state from this]

theorem Alike.board (h : Alike true l s t) (p : Pos) : (s.lane p).board = (t.lane p).board := by
  have := congrArg (fun u : State => (u.lane p).board) h
  simpa [State.core, State.lane] using this

theorem Alike.holdsLead (h : Alike b l s t) (p : Pos) : s.holdsLead p = t.holdsLead p := h.read fun s => s.holdsLead p

/-- The lanes alone are rewritten, the boards alike. -/
theorem Alike.lanes {m n : Tab Lane 12} (h : Alike b l s t) (k : b = true → ∀ p, (m.get p).board = (n.get p).board) :
    Alike b l { s with lanes := m } { t with lanes := n } := by
  have e : (m.map fun x : Lane => { Lane.initial with board := if b then x.board else [] }) =
      n.map fun x : Lane => { Lane.initial with board := if b then x.board else [] } := by
    apply Tab.ext_get
    intro p
    simp only [Tab.get_map]
    split
    · next hb => rw [k hb p]
    · rfl
  have all := congrArg (fun u : State => { u with
    lanes := n.map fun x : Lane => { Lane.initial with board := if b then x.board else [] } }) h
  unfold Alike
  refine Eq.trans ?_ all
  unfold State.core
  rw [e]

theorem Alike.notifyWhere (h : Alike b l s t) (who : Pos → Bool) (n : Notice) :
    Alike b l (s.notifyWhere who n) (t.notifyWhere who n) := by
  refine h.lanes fun hb p => ?_
  subst hb
  have moment : s.moment = t.moment := h.read State.moment
  simp only [Tab.get_build, h.occupied p, moment]
  split
  · exact congrArg (queueOn t.moment n) (h.board p)
  · exact h.board p

theorem Alike.clearBoards (h : Alike b l s t) (f : Notice → Bool) : Alike b l (s.clearBoards f) (t.clearBoards f) := by
  refine h.lanes fun hb p => ?_
  subst hb
  simp only [Tab.get_map]
  exact congrArg (List.filter fun e => !f e.notice) (h.board p)

theorem alike_setLane (p : Pos) {x : Lane} (h : x.board = (s.lane p).board) : Alike b l (s.setLane p x) s := by
  refine Alike.lanes (Alike.refl s) fun _ q => ?_
  rw [Tab.get_put]
  split
  · next e => subst e; exact h
  · rfl

/-! ### Records and the tally of states alike -/

theorem Alike.setRecords (h : Alike b l s t) (rs : List Record) : Alike b l (s.setRecords rs) (t.setRecords rs) :=
  h.map (State.setRecords rs)

theorem Alike.updateRecord (h : Alike b l s t) (id : Nat) (f : Record → Record) :
    Alike b l (s.updateRecord id f) (t.updateRecord id f) := h.map (State.updateRecord id f)

theorem Alike.place (h : Alike b l s t) (c : Change) (a : Option Nat) (o : RecordOrigin) (x : RecordState)
    (ref : Option (Nat × Nat)) : Alike b l (s.place c a o x ref) (t.place c a o x ref) := h.map (State.place c a o x ref)

/-- R71: a withdrawal but for its notice. -/
def State.takeOut (r : Record) (why : Reason) (s : State) : State :=
  let s := s.setRecords (s.records.filter fun x => !(x.id == r.id))
  let s := if r.origin = .sources && why.lists then s.listWithdrawn r.change why else s
  if r.state = .armed then s.dissolveEmpty else s

theorem withdraw_eq (r : Record) (why : Reason) (s : State) : s.withdraw r why =
    (s.takeOut r why).notifyWhere (fun p => decide (r.state = .armed) || decide (p.val < 2)) (.withdrawn r.id r.change why) := by
  have e : s.withdraw r why = if r.state = .armed then (s.takeOut r why).notifyAll (.withdrawn r.id r.change why)
      else (s.takeOut r why).notifyControllers (.withdrawn r.id r.change why) := rfl
  rw [e]
  split
  · next h => simp only [h, decide_true, Bool.true_or]; rfl
  · next h => simp only [h, decide_false, Bool.false_or]; rfl

theorem Alike.takeOut (h : Alike b l s t) (r : Record) (why : Reason) : Alike b l (s.takeOut r why) (t.takeOut r why) := by
  refine h.map (State.takeOut r why) fun s => ?_
  unfold State.takeOut
  dsimp only
  split <;> split <;> rfl

theorem Alike.withdraw (h : Alike b l s t) (r : Record) (why : Reason) :
    Alike b l (s.withdraw r why) (t.withdraw r why) := by
  rw [withdraw_eq, withdraw_eq]
  exact (h.takeOut r why).notifyWhere _ _

theorem Alike.tallyAgreement (h : Alike b l s t) : Alike b l s.tallyAgreement t.tallyAgreement := by
  unfold State.tallyAgreement
  have cond := h.read fun s =>
    s.scale.d.isSome && s.scale.provisional && decide (s.value Config.quorum ≤ s.sched.agreement)
  exact Alike.ite (by rw [cond]) (fun _ _ => h.map fun s => { s with scale := { s.scale with confirmPending := true } })
    fun _ _ => h

theorem Alike.tallyLapse (h : Alike b l s t) : Alike b l s.tallyLapse t.tallyLapse := by
  unfold State.tallyLapse
  rw [show s.records = t.records from h.read State.records]
  refine h.foldl (fun r h => ?_) _
  have d := h.read fun s => s.scale.d
  exact Alike.ite (by rw [d]) (fun _ _ => h.withdraw r .met) fun _ _ => Alike.ite Iff.rfl (fun _ _ => h.withdraw r .lapsed)
    fun _ _ => h

theorem Alike.placeNewcomer (h : Alike b l s t) (vs : List Voter) (n : Refused) :
    Alike b l (s.placeNewcomer vs n) (t.placeNewcomer vs n) := h.map (State.placeNewcomer vs n)

/-- The newcomer finds room in both states or in none. -/
theorem Alike.tryNewcomer (h : Alike b l s t) (vs : List Voter) (n : Refused) :
    (s.tryNewcomer vs n = none ∧ t.tryNewcomer vs n = none) ∨
      ∃ s' t', s.tryNewcomer vs n = some s' ∧ t.tryNewcomer vs n = some t' ∧ Alike b l s' t' := by
  unfold State.tryNewcomer
  rw [show s.scaleCount = t.scaleCount from h.read State.scaleCount,
    show s.yielding _ = t.yielding _ from h.read fun s => s.yielding fun r => decide (r.vouch < n.vouch)]
  split
  · exact .inr ⟨_, _, rfl, rfl, h.placeNewcomer vs n⟩
  · split
    · exact .inr ⟨_, _, rfl, rfl, (h.withdraw _ _).placeNewcomer vs n⟩
    · exact .inl ⟨rfl, rfl⟩

theorem Alike.placeAll (h : Alike b l s t) (vs : List Voter) (ns : List Refused) (f : Option Refused) :
    Alike b l (placeAll vs ns (s, f)).1 (placeAll vs ns (t, f)).1 ∧ (placeAll vs ns (s, f)).2 = (placeAll vs ns (t, f)).2 := by
  induction ns generalizing s t f with
  | nil => exact ⟨h, rfl⟩
  | cons n ns ih =>
    unfold Sys2Proof.Machine.placeAll
    rcases h.tryNewcomer vs n with ⟨hs, ht⟩ | ⟨s', t', hs, ht, h'⟩ <;> rw [hs, ht]
    · exact ih h _
    · exact ih h' _

theorem Alike.setRefused (h : Alike b l s t) (held : Bool) (f : Option Refused) :
    Alike b l (s.setRefused held f) (t.setRefused held f) := by
  unfold State.setRefused
  rw [show s.sched.refused = t.sched.refused from h.read fun s => s.sched.refused]
  split
  · exact Alike.ite Iff.rfl (fun _ _ => h) fun _ _ => h.map fun s => { s with sched := { s.sched with refused := none } }
  · next n =>
    have set : Alike b l { s with sched := { s.sched with refused := some n } }
        { t with sched := { t.sched with refused := some n } } :=
      h.map fun s => { s with sched := { s.sched with refused := some n } }
    exact Alike.ite Iff.rfl (fun _ _ => set) fun _ _ => set.notifyWhere _ _

theorem Alike.tallyNewcomers (h : Alike b l s t) (vs : List Voter) :
    Alike b l (s.tallyNewcomers vs) (t.tallyNewcomers vs) := by
  unfold State.tallyNewcomers
  rw [show s.newcomers vs = t.newcomers vs from h.read (State.newcomers vs),
    show s.holdsBack = t.holdsBack from h.read State.holdsBack]
  obtain ⟨placed, failed⟩ := h.placeAll vs (t.newcomers vs) none
  dsimp only
  rw [failed]
  exact placed.setRefused _ _

theorem Alike.judge (h : Alike b l s t) (vs : List Voter) (id : Nat) : Alike b l (s.judge vs id) (t.judge vs id) := by
  unfold State.judge
  rw [show s.findRecord id = t.findRecord id from h.read fun s => s.findRecord id]
  split
  · exact h
  · next r _ =>
    have quorum := h.read fun s => s.value Config.quorum
    have standing := h.read fun s => s.standing r
    refine Alike.ite (by rw [quorum]) (fun _ _ => ?_) fun _ _ => h
    dsimp only
    refine Alike.ite (by rw [standing]) (fun _ _ => ?_) fun _ _ => ?_
    · exact h.map fun s => s.updateRecord id fun r => { r with state := s.qualifiedState vs r }
    · exact h.map fun s => s.setRecords (s.records.map fun x =>
        if x.id == id || ((s.standing r).map Record.id).contains x.id then x.contest else x)

theorem Alike.noteContest (h : Alike b l s t) (r : Record) : Alike b l (s.noteContest r) (t.noteContest r) := by
  unfold State.noteContest
  rw [show s.standing r = t.standing r from h.read fun s => s.standing r]
  exact h.notifyWhere _ _

theorem Alike.tallyQualify (h : Alike b l s t) (vs : List Voter) : Alike b l (s.tallyQualify vs) (t.tallyQualify vs) := by
  have judged := h.foldl (fun id h => Alike.judge h vs id) (t.records.map Record.id)
  unfold State.tallyQualify
  dsimp only
  rw [show s.records = t.records from h.read State.records, show State.records _ = _ from judged.read State.records]
  exact judged.foldl (fun r h => Alike.noteContest h r) _

theorem Alike.tallyOppose (h : Alike b l s t) : Alike b l s.tallyOppose t.tallyOppose := by
  unfold State.tallyOppose
  rw [show s.records = t.records from h.read State.records]
  refine h.foldl (fun r h => ?_) _
  have quorum := h.read fun s => s.value Config.quorum
  exact Alike.ite (by rw [quorum]) (fun _ _ => h.withdraw r .opposed) fun _ _ => h

theorem Alike.tallyRelease (h : Alike b l s t) (vs : List Voter) : Alike b l (s.tallyRelease vs) (t.tallyRelease vs) := by
  unfold State.tallyRelease
  dsimp only
  rw [show s.records = t.records from h.read State.records,
    show s.standing = t.standing from h.read State.standing]
  exact (h.setRecords _).foldl (fun id h => Alike.judge h vs id) _

/-- R57: the tally of states alike. -/
theorem Alike.tally (h : Alike b l s t) : Alike b l s.tally t.tally := by
  unfold State.tally
  dsimp only
  rw [show s.voters = t.voters from h.read State.voters]
  have counted : Alike b l (s.tallyCounts t.voters) (t.tallyCounts t.voters) := h.map (State.tallyCounts t.voters)
  have purged : Alike b l ((s.tallyCounts t.voters).tallyAgreement.tallyLapse.tallyPurge t.voters)
      ((t.tallyCounts t.voters).tallyAgreement.tallyLapse.tallyPurge t.voters) :=
    counted.tallyAgreement.tallyLapse.map (State.tallyPurge t.voters)
  exact (((purged.tallyNewcomers _).tallyQualify _).tallyOppose).tallyRelease _

end

end Sys2Proof.Machine

namespace Sys2Proof.Machine

set_option Elab.async false

/-! ### The room on a board (R171)

A board of at most `m` entries beyond the first of each key in `K` keeps its entries through notices of these keys, and through
`n` more, while `m`, `n` and the keys come to no more than its room. -/

/-- R171: the kind and subject of a notice. -/
def Notice.key (n : Notice) : Nat × Nat := (n.code, n.subject)

/-- The kinds and subjects on a board. -/
def keysOn (b : List BoardEntry) : List (Nat × Nat) := b.map fun e => e.notice.key

/-- How many members of a list are no last ones of a key in `K`. -/
def surplus (K : Finset (Nat × Nat)) : List (Nat × Nat) → Nat
  | [] => 0
  | k :: ks => surplus K ks + if k ∈ K ∧ k ∉ ks then 0 else 1

/-- A notice waits on a board. -/
def waits (b : List BoardEntry) (n : Notice) : Prop := ∃ e ∈ b, e.notice = n

section
variable {K : Finset (Nat × Nat)} {Q : Notice → Prop}

theorem surplus_add (ks : List (Nat × Nat)) : surplus K ks + (K ∩ ks.toFinset).card = ks.length := by
  induction ks with
  | nil => simp [surplus]
  | cons k ks ih =>
    rw [surplus, List.toFinset_cons, List.length_cons]
    by_cases hk : k ∈ K
    · by_cases hm : k ∈ ks
      · rw [Finset.insert_eq_of_mem (List.mem_toFinset.mpr hm), if_neg (by simp [hm])]
        omega
      · rw [Finset.inter_insert_of_mem hk, Finset.card_insert_of_notMem (by simp [hm]), if_pos ⟨hk, hm⟩]
        omega
    · rw [Finset.inter_insert_of_notMem hk, if_neg (by simp [hk])]
      omega

theorem length_le_surplus (ks : List (Nat × Nat)) : ks.length ≤ surplus K ks + K.card := by
  have all := surplus_add (K := K) ks
  have some := Finset.card_le_card (Finset.inter_subset_left (s₁ := K) (s₂ := ks.toFinset))
  omega

theorem surplus_le_length (ks : List (Nat × Nat)) : surplus K ks ≤ ks.length := by
  have all := surplus_add (K := K) ks
  omega

theorem surplus_perm {k m : List (Nat × Nat)} (h : k.Perm m) : surplus K k = surplus K m := by
  have a := surplus_add (K := K) k
  have b := surplus_add (K := K) m
  rw [List.toFinset_eq_of_perm _ _ h, h.length_eq] at a
  omega

theorem surplus_sublist {k m : List (Nat × Nat)} (h : k.Sublist m) : surplus K k ≤ surplus K m := by
  induction h with
  | slnil => exact Nat.le_refl _
  | cons a _ ih => exact ih.trans (Nat.le_add_right _ _)
  | @cons_cons k m a sub ih =>
    rw [surplus, surplus]
    have : (if a ∈ K ∧ a ∉ k then 0 else 1) ≤ if a ∈ K ∧ a ∉ m then 0 else 1 := by
      by_cases ha : a ∈ K ∧ a ∉ m
      · rw [if_pos ⟨ha.1, fun hk => ha.2 (sub.subset hk)⟩]
        exact Nat.zero_le _
      · rw [if_neg ha]
        split <;> omega
    omega

theorem surplus_cons_le (k : Nat × Nat) (ks : List (Nat × Nat)) : surplus K (k :: ks) ≤ surplus K ks + 1 := by
  rw [surplus]
  split <;> omega

theorem surplus_cons_new {k : Nat × Nat} {ks : List (Nat × Nat)} (hk : k ∈ K) (new : k ∉ ks) :
    surplus K (k :: ks) = surplus K ks := by
  rw [surplus, if_pos ⟨hk, new⟩]
  rfl

/-! ### Queuing a notice -/

theorem sameKey_iff (a b : Notice) : a.sameKey b = true ↔ b.key = a.key := by
  simp only [Notice.sameKey, Notice.key, Bool.and_eq_true, beq_iff_eq, Prod.mk.injEq]
  exact and_congr eq_comm eq_comm

theorem over_key {n old : Notice} (h : n.sameKey old = true) : (n.over old).key = old.key := by
  rw [sameKey_iff] at h
  unfold Notice.over
  split
  · rfl
  · exact h.symm

theorem insertBy_perm {α : Type} (le : α → α → Bool) (x : α) (l : List α) : (insertBy le x l).Perm (x :: l) := by
  rw [insertBy_eq_orderedInsert]
  exact List.perm_orderedInsert _ x l

theorem trimBoard_fits {b : List BoardEntry} (h : b.length ≤ 48) : trimBoard b = b := if_pos h

/-- R171, R172: a notice with room takes the place of the entries of its key, or joins. -/
theorem queueOn_cases (m : Nat) (n : Notice) (b : List BoardEntry) :
    let kept := b.filter fun e => !clearsArmed n e
    (n.key ∈ keysOn kept ∧
      queueOn m n b = kept.map fun e => if n.sameKey e.notice then { e with notice := n.over e.notice } else e) ∨
    (n.key ∉ keysOn kept ∧ queueOn m n b = trimBoard (insertBy BoardEntry.before ⟨m, n⟩ kept)) := by
  intro kept
  have any : (kept.any fun e => n.sameKey e.notice) = true ↔ n.key ∈ keysOn kept := by
    simp [keysOn, sameKey_iff]
  unfold queueOn
  dsimp only
  by_cases h : n.key ∈ keysOn kept
  · exact .inl ⟨h, if_pos (any.mpr h)⟩
  · exact .inr ⟨h, if_neg (mt any.mp h)⟩

/-- What a step does to a board that has room for `n` entries more: its surplus grows by `n` at most, and notices of `Q` stay. -/
def Grows (K : Finset (Nat × Nat)) (Q : Notice → Prop) (n : Nat) (b c : List BoardEntry) : Prop :=
  ∀ m, m + n + K.card ≤ 48 → surplus K (keysOn b) ≤ m →
    surplus K (keysOn c) ≤ m + n ∧ ∀ x, Q x → waits b x → waits c x

theorem Grows.refl (b : List BoardEntry) : Grows K Q 0 b b := fun _ _ h => ⟨h, fun _ _ w => w⟩

theorem Grows.trans {n n' : Nat} {b c d : List BoardEntry} (h : Grows K Q n b c) (k : Grows K Q n' c d) :
    Grows K Q (n + n') b d := by
  intro m room few
  obtain ⟨few', stay⟩ := h m (by omega) few
  obtain ⟨few'', stay'⟩ := k (m + n) (by omega) few'
  exact ⟨by omega, fun x q w => stay' x q (stay x q w)⟩

theorem Grows.mono {n n' : Nat} {b c : List BoardEntry} (h : Grows K Q n b c) (le : n ≤ n') : Grows K Q n' b c := by
  intro m room few
  obtain ⟨few', stay⟩ := h m (by omega) few
  exact ⟨by omega, stay⟩

theorem grows_filter {f : BoardEntry → Bool} (hf : ∀ e, Q e.notice → f e = true) (b : List BoardEntry) :
    Grows K Q 0 b (b.filter f) := by
  intro m _ few
  refine ⟨(surplus_sublist (List.filter_sublist.map _)).trans few, ?_⟩
  rintro x q ⟨e, he, rfl⟩
  exact ⟨e, List.mem_filter.mpr ⟨he, hf e q⟩, rfl⟩

/-- R171: a notice that is queued, in all but what becomes of the entries of its own key. -/
theorem grows_queueOn {n : Nat} {x : Notice} (counted : x.key ∈ K ∨ n = 1)
    (other : ∀ y, Q y → y.isArmed = false ∧ y.key ≠ x.key) (m : Nat) (b : List BoardEntry) :
    Grows K Q n b (queueOn m x b) := by
  have spared : ∀ e : BoardEntry, Q e.notice → (!clearsArmed x e) = true := by
    intro e q
    have := (other _ q).1
    cases hn : e.notice <;> simp [hn, Notice.isArmed] at this <;> cases x <;> simp [clearsArmed, hn, Notice.armsRecord]
  rw [show n = 0 + n by omega]
  refine (grows_filter spared b).trans ?_
  rcases queueOn_cases m x b with ⟨-, e⟩ | ⟨new, e⟩ <;> rw [e] <;> intro k room few
  · have keys (l : List BoardEntry) :
        keysOn (l.map fun e => if x.sameKey e.notice then { e with notice := x.over e.notice } else e) = keysOn l := by
      unfold keysOn
      rw [List.map_map]
      refine List.map_congr_left fun e _ => ?_
      simp only [Function.comp]
      split
      · next h => exact over_key h
      · rfl
    rw [keys]
    refine ⟨few.trans (Nat.le_add_right _ _), ?_⟩
    rintro y q ⟨e, he, rfl⟩
    refine ⟨e, List.mem_map.mpr ⟨e, he, if_neg ?_⟩, rfl⟩
    rw [sameKey_iff]
    exact (other _ q).2
  · generalize b.filter (fun e => !clearsArmed x e) = c at new few
    have perm := insertBy_perm BoardEntry.before ⟨m, x⟩ c
    have keys : (keysOn (insertBy BoardEntry.before ⟨m, x⟩ c)).Perm (x.key :: keysOn c) := perm.map _
    have grown : surplus K (keysOn (insertBy BoardEntry.before ⟨m, x⟩ c)) ≤ k + n := by
      rw [surplus_perm keys]
      rcases counted with hk | rfl
      · rw [surplus_cons_new hk new]
        omega
      · exact (surplus_cons_le _ _).trans (by omega)
    have fits : (insertBy BoardEntry.before ⟨m, x⟩ c).length ≤ 48 := by
      have := length_le_surplus (K := K) (keysOn (insertBy BoardEntry.before ⟨m, x⟩ c))
      rw [show (keysOn (insertBy BoardEntry.before ⟨m, x⟩ c)).length = _ from List.length_map _] at this
      omega
    rw [trimBoard_fits fits]
    refine ⟨grown, ?_⟩
    rintro y q ⟨e, he, rfl⟩
    exact ⟨e, perm.mem_iff.mpr (List.mem_cons_of_mem _ he), rfl⟩

/-- R171: a notice that keeps no part of the entry it replaces waits once it is queued, where there is room. -/
theorem waits_queueOn {x : Notice} (own : ∀ old, x.over old = x) (m : Nat) {b : List BoardEntry} (room : b.length < 48) :
    waits (queueOn m x b) x := by
  rcases queueOn_cases m x b with ⟨has, e⟩ | ⟨-, e⟩ <;> rw [e]
  · obtain ⟨y, hy, key⟩ := List.mem_map.mp has
    refine ⟨_, List.mem_map.mpr ⟨y, hy, rfl⟩, ?_⟩
    rw [if_pos ((sameKey_iff _ _).mpr key)]
    exact own _
  · generalize hc : b.filter (fun e => !clearsArmed x e) = c
    have short : c.length ≤ b.length := hc ▸ List.length_filter_le ..
    have perm := insertBy_perm BoardEntry.before ⟨m, x⟩ c
    rw [trimBoard_fits (by rw [perm.length_eq, List.length_cons]; omega)]
    exact ⟨⟨m, x⟩, perm.mem_iff.mpr (List.mem_cons_self ..), rfl⟩

end

/-! ### The boards of a state -/

/-- What an operation does to every board that has room for `n` entries more. -/
def Carries (K : Finset (Nat × Nat)) (Q : Notice → Prop) (n : Nat) (s t : State) : Prop :=
  ∀ p, Grows K Q n (s.lane p).board (t.lane p).board

section
variable {K : Finset (Nat × Nat)} {Q : Notice → Prop} {n n' : Nat} {s t u : State}

theorem Carries.refl (s : State) : Carries K Q 0 s s := fun _ => Grows.refl _

theorem Carries.trans (h : Carries K Q n s t) (k : Carries K Q n' t u) : Carries K Q (n + n') s u :=
  fun p => (h p).trans (k p)

theorem Carries.trans₀ (h : Carries K Q 0 s t) (k : Carries K Q 0 t u) : Carries K Q 0 s u := h.trans k

theorem Carries.mono (h : Carries K Q n s t) (le : n ≤ n') : Carries K Q n' s t := fun p => (h p).mono le

theorem Carries.ite {c : Prop} [Decidable c] (h : Carries K Q n s t) (k : Carries K Q n s u) :
    Carries K Q n s (if c then t else u) := by
  split <;> assumption

theorem Carries.foldl {α : Type} {f : State → α → State} (h : ∀ s x, Carries K Q 0 s (f s x)) (l : List α) (s : State) :
    Carries K Q 0 s (l.foldl f s) := by
  induction l generalizing s with
  | nil => exact Carries.refl s
  | cons x xs ih => exact (h s x).trans₀ (ih (f s x))

/-- A list of operations, each with one notice at most, and none but for the members that meet `c`. -/
theorem Carries.foldlCount {α : Type} {f : State → α → State} (c : α → Bool)
    (h : ∀ s x, Carries K Q (if c x then 1 else 0) s (f s x)) (l : List α) (s : State) :
    Carries K Q (l.filter c).length s (l.foldl f s) := by
  induction l generalizing s with
  | nil => exact Carries.refl s
  | cons x xs ih =>
    refine ((h s x).trans (ih (f s x))).mono (le_of_eq ?_)
    rw [List.filter_cons]
    split
    · rw [List.length_cons]; omega
    · omega

/-- The boards are as they were. -/
theorem carries_boards (h : ∀ p, (t.lane p).board = (s.lane p).board) : Carries K Q 0 s t := fun p => by
  rw [h]
  exact Grows.refl _

/-- The lanes are as they were. -/
theorem Unchanged.carries {but : List Block} (h : Unchanged but s t) (hb : Block.lanes ∉ but := by decide) :
    Carries K Q 0 s t := carries_boards fun p => by
  unfold State.lane
  rw [show t.lanes = s.lanes from h .lanes hb]

theorem lane_notify (who : Pos → Bool) (x : Notice) (s : State) (p : Pos) :
    (s.notifyWhere who x).lane p = if who p && s.occupied p then (s.lane p).enqueue s.moment x else s.lane p := by
  simp [State.notifyWhere, State.lane]

theorem carries_notify {x : Notice} (counted : x.key ∈ K ∨ n = 1) (other : ∀ y, Q y → y.isArmed = false ∧ y.key ≠ x.key)
    (who : Pos → Bool) (s : State) : Carries K Q n s (s.notifyWhere who x) := by
  intro p
  rw [lane_notify]
  split
  · exact grows_queueOn counted other _ _
  · exact (Grows.refl _).mono (Nat.zero_le _)

theorem carries_clearBoards {f : Notice → Bool} (hf : ∀ x, Q x → f x = false) (s : State) :
    Carries K Q 0 s (s.clearBoards f) := by
  intro p
  have : (s.clearBoards f).lane p = { s.lane p with board := (s.lane p).board.filter fun e => !f e.notice } := by
    simp [State.clearBoards, State.lane]
  rw [this]
  exact grows_filter (fun e q => by simp [hf _ q]) _

/-- R113: an offer joins or leaves. -/
theorem carries_refreshOffers (counted : Notice.offer.key ∈ K ∨ n = 1)
    (other : ∀ y, Q y → y.isArmed = false ∧ y.key ≠ Notice.offer.key) (s : State) : Carries K Q n s s.refreshOffers := by
  intro p
  rw [lane_refreshOffers]
  split
  · split
    · exact (Grows.refl _).mono (Nat.zero_le _)
    · exact grows_queueOn counted other _ _
  · refine (grows_filter (fun e q => ?_) _).mono (Nat.zero_le _)
    have := (other _ q).2
    cases h : e.notice <;> simp_all [Notice.isOffer]

theorem carries_finish (counted : Notice.offer.key ∈ K ∨ n = 1)
    (other : ∀ y, Q y → y.isArmed = false ∧ y.key ≠ Notice.offer.key) (s : State) : Carries K Q n s s.finish :=
  (carries_refreshOffers counted other s).trans (frame_sync _).carries

/-- A board of at most `m` entries has room for what comes. -/
theorem Carries.waits (h : Carries K Q n s t) {p : Pos} {m : Nat} (few : surplus K (keysOn (s.lane p).board) ≤ m)
    (room : m + n + K.card ≤ 48) {x : Notice} (q : Q x) (w : waits (s.lane p).board x) : waits (t.lane p).board x :=
  (h p m room few).2 x q w

theorem surplus_le_board (b : List BoardEntry) : surplus K (keysOn b) ≤ b.length := by
  have := surplus_le_length (K := K) (keysOn b)
  rwa [show (keysOn b).length = b.length from List.length_map _] at this

theorem board_lt {b : List BoardEntry} {m : Nat} (few : surplus K (keysOn b) ≤ m) (room : m + K.card < 48) : b.length < 48 := by
  have := length_le_surplus (K := K) (keysOn b)
  rw [show (keysOn b).length = b.length from List.length_map _] at this
  omega

end

end Sys2Proof.Machine

namespace Sys2Proof.Machine

set_option Elab.async false

/-! ### How many notices a tally queues -/

/-- Notices that a tally neither replaces nor removes. -/
def besideTally (Q : Notice → Prop) : Prop :=
  ∀ y, Q y → y.isArmed = false ∧ y.code ≠ 0x51 ∧ y.code ≠ 0x5A ∧ y.code ≠ 0x5B

section
variable {K : Finset (Nat × Nat)} {Q : Notice → Prop} {s t : State}

theorem frame_takeOut (r : Record) (why : Reason) (s : State) : Unchanged [.sched, .scale] s (s.takeOut r why) := by
  unfold State.takeOut
  dsimp only
  refine Unchanged.andIte ?_ (frame_dissolveEmpty _).mono (Unchanged.refl _ _)
  exact Unchanged.andIte (frame_setRecords _ s).mono (frame_listWithdrawn _ _ _).mono (Unchanged.refl _ _)

theorem carries_withdraw (beside : besideTally Q) (r : Record) (why : Reason) (s : State) :
    Carries K Q 1 s (s.withdraw r why) := by
  rw [withdraw_eq]
  refine (((frame_takeOut r why s).carries (K := K) (Q := Q)).trans (carries_notify (.inr rfl) (fun y q => ?_) _ _)).mono (by omega)
  obtain ⟨unarmed, code, -, -⟩ := beside y q
  exact ⟨unarmed, fun e => code (congrArg Prod.fst e)⟩

theorem carries_tallyLapse (beside : besideTally Q) (s : State) : Carries K Q s.records.length s s.tallyLapse := by
  refine (Carries.foldlCount (fun _ => true) (fun s r => ?_) s.records s).mono (List.length_filter_le ..)
  exact Carries.ite (carries_withdraw beside _ _ s) (Carries.ite (carries_withdraw beside _ _ s)
    ((Carries.refl s).mono (by simp)))

/-- R62: how many records a newcomer of vouch tally `v` could displace. -/
def State.yieldable (s : State) (v : Nat) : Nat :=
  (s.records.filter fun r => r.isScale && r.state == .heard && decide (r.vouch < v)).length

theorem yieldable_mono (s : State) {v w : Nat} (h : v ≤ w) : s.yieldable v ≤ s.yieldable w := by
  refine (List.monotone_filter_right _ fun r hr => ?_).length_le
  simp only [Bool.and_eq_true, decide_eq_true_eq] at hr ⊢
  exact ⟨hr.1, by omega⟩

theorem yieldable_le_scaleCount (s : State) (v : Nat) : s.yieldable v ≤ s.scaleCount := by
  refine (List.monotone_filter_right _ fun r hr => ?_).length_le
  simp only [Bool.and_eq_true] at hr
  exact hr.1.1

theorem yieldable_withdraw {r : Record} {v : Nat} (why : Reason)
    (h : s.yielding (fun r => decide (r.vouch < v)) = some r) : (s.withdraw r why).yieldable v < s.yieldable v := by
  obtain ⟨mem, scale, heard, low⟩ := mem_of_yielding h
  unfold State.yieldable
  rw [records_withdraw, ((sortBy_perm _ _).filter _).length_eq, List.filter_comm]
  refine List.length_filter_lt_length_iff_exists.mpr ⟨r, List.mem_filter.mpr ⟨mem, ?_⟩, by simp⟩
  simp [scale, heard, low]

/-- R62: a record placed with a vouch tally no lower cannot be displaced. -/
theorem yieldable_place {vs : List Voter} {n : Refused} {v : Nat} (h : v ≤ n.vouch) :
    (s.placeNewcomer vs n).yieldable v ≤ s.yieldable v := by
  unfold State.placeNewcomer State.yieldable State.updateRecord
  dsimp only
  generalize hg : (fun r : Record => if r.id == s.newId then _ else r) = g
  have low : ∀ r : Record, (g r).vouch < v → g r = r := by
    intro r hr
    rw [← hg] at hr ⊢
    dsimp only at hr ⊢
    split
    · next e => rw [if_pos e] at hr; dsimp only at hr; omega
    · rfl
  rw [records_setRecords, ((sortBy_perm _ _).filter _).length_eq, List.filter_map, List.length_map]
  unfold State.place
  refine (((sortBy_perm _ _).filter _).length_eq).trans_le ?_
  rw [List.filter_cons_of_neg]
  · refine (List.monotone_filter_right _ fun r hr => ?_).length_le
    simp only [Function.comp, Bool.and_eq_true, decide_eq_true_eq] at hr ⊢
    rw [low r hr.2] at hr
    exact hr
  · simp only [Function.comp, Bool.and_eq_true, decide_eq_true_eq, not_and, not_lt]
    intro _
    rw [← hg]
    simp [h]

theorem carries_placeAll (beside : besideTally Q) {vs : List Voter} {ns : List Refused}
    (sorted : ns.Pairwise fun a b => b.vouch ≤ a.vouch) {s : State} {y : Nat} (few : ∀ n ∈ ns, s.yieldable n.vouch ≤ y)
    (f : Option Refused) : Carries K Q y s (placeAll vs ns (s, f)).1 := by
  induction ns generalizing s y f with
  | nil => exact (Carries.refl s).mono (Nat.zero_le _)
  | cons n ns ih =>
    obtain ⟨first, sorted⟩ := List.pairwise_cons.mp sorted
    have placed (u : State) : Carries K Q 0 u (u.placeNewcomer vs n) := (frame_placeNewcomer vs n u).carries
    unfold placeAll
    unfold State.tryNewcomer
    by_cases room : s.scaleCount < Config.scaleRoom
    · simp only [if_pos room]
      refine ((placed s).trans (ih sorted (y := y) (fun m hm => ?_) f)).mono (by omega)
      exact (yieldable_place (first m hm)).trans (few m (List.mem_cons_of_mem _ hm))
    · simp only [if_neg room]
      cases hr : s.yielding fun r => decide (r.vouch < n.vouch) with
      | none => exact ih sorted (fun m hm => few m (List.mem_cons_of_mem _ hm)) _
      | some r =>
        have fewer := yieldable_withdraw .displaced hr
        have bound := few n (List.mem_cons_self ..)
        refine (((carries_withdraw beside r .displaced s).trans (placed _)).trans
          (ih sorted (y := y - 1) (fun m hm => ?_) f)).mono (by omega)
        have := (yieldable_place (s := s.withdraw r .displaced) (vs := vs) (first m hm)).trans
          (yieldable_mono _ (first m hm))
        omega

/-- R62: newcomers are placed in descending order of their vouch tallies. -/
theorem newcomers_sorted (vs : List Voter) (s : State) : (s.newcomers vs).Pairwise fun a b => b.vouch ≤ a.vouch := by
  have sorted : (s.newcomers vs).Pairwise fun a b => newcomerBefore a b = true := by
    unfold State.newcomers
    refine sortBy_pairwise _ (fun a b => ?_) (fun a b c h k => ?_) _
    · simp only [newcomerBefore, Bool.or_eq_true, Bool.and_eq_true, decide_eq_true_eq, beq_iff_eq]
      omega
    · simp only [newcomerBefore, Bool.or_eq_true, Bool.and_eq_true, decide_eq_true_eq, beq_iff_eq] at h k ⊢
      omega
  refine sorted.imp fun {a b} h => ?_
  simp only [newcomerBefore, Bool.or_eq_true, Bool.and_eq_true, decide_eq_true_eq, beq_iff_eq] at h
  omega

theorem carries_setRefused (beside : besideTally Q) (held : Bool) (f : Option Refused) (s : State) :
    Carries K Q 1 s (s.setRefused held f) := by
  have same (r : Option Refused) : Carries K Q 1 s { s with sched := { s.sched with refused := r } } :=
    (frame_withSched _ s).carries.mono (Nat.zero_le _)
  unfold State.setRefused
  split
  · exact Carries.ite ((Carries.refl s).mono (Nat.zero_le _)) (same none)
  · refine Carries.ite (same _) ?_
    refine ((frame_withSched _ s).carries.trans (carries_notify (.inr rfl) (fun y q => ?_) _ _)).mono (by omega)
    obtain ⟨unarmed, -, -, code⟩ := beside y q
    exact ⟨unarmed, fun e => code (congrArg Prod.fst e)⟩

theorem carries_tallyNewcomers (beside : besideTally Q) (vs : List Voter) (s : State) :
    Carries K Q (s.scaleCount + 1) s (s.tallyNewcomers vs) :=
  (carries_placeAll beside (newcomers_sorted vs s) (fun _ _ => yieldable_le_scaleCount s _) none).trans
    (carries_setRefused beside _ _ _)

end

/-! ### Who enters CONTESTED -/

section
variable {s : State}

/-- R66: but for the ids of `was`, the CONTESTED records are of the scale class. -/
def State.contestsScale (was : List Nat) (s : State) : Prop :=
  ∀ r ∈ s.records, r.state = .contested → was.contains r.id = false → r.isScale = true

theorem rival_isScale {a b : Record} (h : a.rival b = true) : a.isScale = true ∧ b.isScale = true := by
  unfold Record.rival at h
  unfold Record.isScale
  split at h <;> simp_all [Change.isShift]

theorem isScale_contest (x : Record) : x.contest.isScale = x.isScale := by
  unfold Record.isScale
  rw [(becomes_contest x).2.1]

theorem qualifiedState_ne (s : State) (vs : List Voter) (r : Record) : s.qualifiedState vs r ≠ .contested := by
  unfold State.qualifiedState
  split
  · split <;> simp
  · simp

theorem contestsScale_judge {was : List Nat} (vs : List Voter) (id : Nat) (q : quotasHold s.records)
    (h : s.contestsScale was) : (s.judge vs id).contestsScale was := by
  unfold State.judge
  split
  · exact h
  · next r hr =>
    obtain ⟨mem, hid⟩ := mem_of_findRecord hr
    split
    · dsimp only
      split
      · intro y hy contested new
        obtain ⟨x, hx, rfl⟩ := mem_updateRecord.mp hy
        split at contested
        · exact absurd contested (qualifiedState_ne s vs x)
        · next e => rw [if_neg e] at new ⊢; exact h x hx contested new
      · next some =>
        intro y hy contested new
        obtain ⟨x, hx, rfl⟩ := List.mem_map.mp ((mem_sortBy _ _ _).mp hy)
        obtain ⟨z, hz⟩ := List.exists_mem_of_ne_nil _ (by simpa using some)
        obtain ⟨zm, zr⟩ := List.mem_filter.mp hz
        simp only [Bool.and_eq_true] at zr
        split at contested
        · next meant =>
          rw [if_pos meant, isScale_contest]
          simp only [Bool.or_eq_true, beq_iff_eq, List.contains_eq_mem, decide_eq_true_eq, List.mem_map] at meant
          rcases meant with own | ⟨w, hw, own⟩
          · rw [eq_of_id q hx mem (own.trans hid.symm)]
            exact (rival_isScale zr.1).1
          · obtain ⟨wm, wr⟩ := List.mem_filter.mp hw
            simp only [Bool.and_eq_true] at wr
            rw [eq_of_id q hx wm own.symm]
            exact (rival_isScale wr.1).2
        · next e => rw [if_neg e] at new ⊢; exact h x hx contested new
    · exact h

/-- R66: judging leaves the ids and quotas. -/
theorem quotasHold_judge (vs : List Voter) (id : Nat) (q : quotasHold s.records) : quotasHold (s.judge vs id).records := by
  unfold State.judge
  split
  · exact q
  · split
    · dsimp only
      split <;> refine quotasHold_sortBy (quotasHold_map (fun r _ => ?_) q) <;> split
      · exact ⟨rfl, rfl⟩
      · exact ⟨rfl, rfl⟩
      · exact ⟨(becomes_contest r).1, (becomes_contest r).2.1⟩
      · exact ⟨rfl, rfl⟩
    · exact q

theorem contestsScale_foldJudge {was : List Nat} (vs : List Voter) (ids : List Nat) (q : quotasHold s.records)
    (h : s.contestsScale was) : quotasHold (ids.foldl (fun a id => a.judge vs id) s).records ∧
      (ids.foldl (fun a id => a.judge vs id) s).contestsScale was := by
  induction ids generalizing s with
  | nil => exact ⟨q, h⟩
  | cons id ids ih => exact ih (quotasHold_judge vs id q) (contestsScale_judge vs id q h)

variable {K : Finset (Nat × Nat)} {Q : Notice → Prop}

theorem carries_tallyQualify (beside : besideTally Q) (vs : List Voter) (q : quotasHold s.records) :
    Carries K Q 5 s (s.tallyQualify vs) := by
  have judged : Carries K Q 0 s ((s.records.map Record.id).foldl (fun a id => a.judge vs id) s) :=
    Carries.foldl (fun s id => (frame_judge vs id s).carries) _ s
  have start : s.contestsScale ((s.records.filter fun r => r.state == .contested).map Record.id) := by
    intro r hr contested new
    simp only [List.contains_eq_mem, decide_eq_false_iff_not, List.mem_map, List.mem_filter, not_exists, not_and] at new
    exact absurd rfl (new r ⟨hr, by simp [contested]⟩)
  obtain ⟨quotas, scale⟩ := contestsScale_foldJudge vs (s.records.map Record.id) q start
  unfold State.tallyQualify
  dsimp only
  refine (judged.trans (Carries.foldlCount (fun _ => true) (fun u r => ?_) _ _)).mono ?_
  · refine carries_notify (.inr rfl) (fun y hy => ?_) _ _
    obtain ⟨unarmed, -, code, -⟩ := beside y hy
    exact ⟨unarmed, fun e => code (congrArg Prod.fst e)⟩
  · rw [Nat.zero_add]
    refine (List.length_filter_le ..).trans (le_trans ?_ (scaleCount_le quotas))
    unfold State.scaleCount
    rw [← List.countP_eq_length_filter, ← List.countP_eq_length_filter]
    refine List.countP_mono_left fun r hr entered => ?_
    simp only [Bool.and_eq_true, beq_iff_eq, Bool.not_eq_true'] at entered
    exact scale r hr entered.1 entered.2

theorem carries_tallyOppose (beside : besideTally Q) (q : quotasHold s.records) : Carries K Q 5 s s.tallyOppose := by
  refine (Carries.foldlCount (fun r => r.change.isLeap) (fun u r => ?_) s.records s).mono ?_
  · split
    · exact Carries.ite (carries_withdraw beside _ _ u) ((Carries.refl u).mono (Nat.zero_le _))
    · next leap =>
      rw [if_neg (by simp [leap])]
      exact Carries.refl u
  · refine le_trans (List.monotone_filter_right _ fun r hr => ?_).length_le (scaleCount_le q)
    unfold Record.isScale
    cases h : r.change <;> simp_all [Change.isLeap, Change.isShift]

theorem scaleCount_withdraw_le (r : Record) (why : Reason) (s : State) : (s.withdraw r why).scaleCount ≤ s.scaleCount := by
  unfold State.scaleCount
  rw [records_withdraw, ((sortBy_perm _ _).filter _).length_eq]
  exact (List.filter_sublist.filter _).length_le

theorem scaleCount_tallyLapse (s : State) : s.tallyLapse.scaleCount ≤ s.scaleCount := by
  have all (l : List Record) (u : State) : (l.foldl (fun s r =>
      if r.isMet s.scale.d then s.withdraw r .met
      else if r.lapses then s.withdraw r .lapsed else s) u).scaleCount ≤ u.scaleCount := by
    induction l generalizing u with
    | nil => exact le_rfl
    | cons r l ih =>
      refine (ih _).trans ?_
      dsimp only
      split
      · exact scaleCount_withdraw_le _ _ _
      · split
        · exact scaleCount_withdraw_le _ _ _
        · exact le_rfl
  exact all _ s

/-- R55: the counts of a tally leave as many records as there were. -/
theorem records_counted (vs : List Voter) (s : State) : (s.tallyCounts vs).tallyAgreement.records.length = s.records.length ∧
    (s.tallyCounts vs).tallyAgreement.scaleCount = s.scaleCount := by
  have agreed (u : State) : u.tallyAgreement.records = u.records := by unfold State.tallyAgreement; split <;> rfl
  unfold State.scaleCount
  rw [agreed]
  unfold State.tallyCounts
  constructor
  · exact ((sortBy_perm _ _).length_eq).trans (List.length_map _)
  · refine ((sortBy_perm _ _).filter _).length_eq.trans ?_
    rw [List.filter_map, List.length_map]
    rfl

/-- R57: a tally of `n` records queues `n` notices at most of lapse, one for each HEARD record that a newcomer displaces, one
SCHEDULE_FULL, and one CONTEST and one OPPOSED for each of five records. -/
theorem carries_tally_of_fit (beside : besideTally Q) (fit : s.recordsFit) :
    Carries K Q (s.records.length + s.scaleCount + 11) s s.tally := by
  unfold State.tally
  dsimp only
  have counted : Carries K Q 0 s (s.tallyCounts s.voters).tallyAgreement :=
    (frame_tallyCounts _ s).carries.trans₀ (frame_tallyAgreement _).carries
  have steady : Steady s.recordsFit s
      ((s.tallyCounts s.voters).tallyAgreement.tallyLapse.tallyPurge s.voters) :=
    (((steady_tallyCounts _ s).trans (steady_tallyAgreement _)).trans (steady_tallyLapse _)).trans (steady_tallyPurge _ _)
  obtain ⟨length, scale⟩ := records_counted s.voters s
  generalize (s.tallyCounts s.voters).tallyAgreement = c at counted steady length scale ⊢
  have lapsed : Carries K Q c.records.length c (c.tallyLapse.tallyPurge s.voters) :=
    (carries_tallyLapse beside c).trans (frame_tallyPurge _ _).carries
  have fewer : (c.tallyLapse.tallyPurge s.voters).scaleCount ≤ c.scaleCount := scaleCount_tallyLapse c
  generalize c.tallyLapse.tallyPurge s.voters = d at steady lapsed fewer ⊢
  have placed := carries_tallyNewcomers (K := K) beside s.voters d
  have newFit := (steady.trans (steady_tallyNewcomers s.voters d)).fit fit fit
  generalize d.tallyNewcomers s.voters = e at placed newFit ⊢
  have qualified := carries_tallyQualify (K := K) beside s.voters ((State.recordsFit_iff e).mp newFit).1
  have fit' := (steady_tallyQualify (P := True) s.voters e).fit trivial newFit
  have opposed := carries_tallyOppose (K := K) beside ((State.recordsFit_iff _).mp fit').1
  have released : Carries K Q 0 (e.tallyQualify s.voters).tallyOppose
      ((e.tallyQualify s.voters).tallyOppose.tallyRelease s.voters) := (frame_tallyRelease _ _).carries
  refine (((((counted.trans lapsed).trans placed).trans qualified).trans opposed).trans released).mono ?_
  omega

/-- The copy has no say in the tally. -/
theorem carries_tally (beside : besideTally Q) (q : quotasHold s.records) :
    Carries K Q (s.records.length + s.scaleCount + 11) s s.tally := by
  have alike : Alike true true (s.setStore ⟨.initial, true⟩) s := rfl
  have fit : (s.setStore ⟨.initial, true⟩).recordsFit := (State.recordsFit_iff _).mpr ⟨q, quotasHold_nil⟩
  have h := carries_tally_of_fit (K := K) beside fit
  intro p
  rw [← alike.board p, ← alike.tally.board p]
  exact h p

end

end Sys2Proof.Machine

namespace Sys2Proof.Machine

set_option Elab.async false

/-! ### An entry rewritten during a second (R50, R51, R57, R60) -/

section
variable {s t : State}

/-- R60: entry `i` rewritten, and its trailing mark with it, before any notice. -/
def State.rewritten (i : Fin 16) (new : Source) (s : State) : State :=
  { s with
    sources := s.sources.put i new
    sched := { s.sched with
      marks := if (s.source i).keepsMark s.time.t new then s.sched.marks else s.sched.marks.put i false } }

theorem putSource_eq (i : Fin 16) (new : Source) (s : State) : s.putSource i new =
    if (s.source i).changed new
    then (s.rewritten i new).notifyControllers (.sourceState i new (new.spent s.time.t)) else s.rewritten i new := by
  have set : (if (s.source i).effective s.time.t = new.effective s.time.t && (s.source i).key = new.key
      then s.setSource i new else (s.setSource i new).unmark i) = s.rewritten i new := by
    unfold State.rewritten Source.keepsMark
    split <;> rfl
  have source : (s.rewritten i new).source i = new := Tab.get_put_self _ _ _
  unfold State.putSource State.noteSource
  dsimp only
  rw [set, source]
  rfl

/-- Nothing is prompted where nothing changes. -/
theorem prompt_self (i : Fin 16) (s : State) : s.prompt i (s.source i) = s := by
  have same : (s.source i).changed (s.source i) = false := by simp [Source.changed]
  have kept : (s.source i).keepsMark s.time.t (s.source i) = true := by simp [Source.keepsMark]
  have rewritten : s.rewritten i (s.source i) = s := by
    unfold State.rewritten
    rw [kept, show s.sources.put i (s.source i) = s.sources from Tab.put_get _ _]
    rfl
  unfold State.prompt
  rw [putSource_eq, same, rewritten]
  rfl

theorem frame_lanes_putSource (i : Fin 16) (new : Source) (s : State) :
    Unchanged [.lanes] (s.rewritten i new) (s.putSource i new) := by
  rw [putSource_eq]
  exact Unchanged.ite _ (frame_notifyControllers _ _) (Unchanged.refl _ _)

theorem alike_of_unchanged {l : Bool} (h : Unchanged [.lanes] s t) : Alike false l s t := by
  have lanes : { t with lanes := s.lanes } = s := by
    obtain ⟨⟩ := s
    obtain ⟨⟩ := t
    simp only [State.mk.injEq]
    exact ⟨h .pins (by decide), h .time (by decide), h .labels (by decide), h .sources (by decide), h .sched (by decide),
      h .scale (by decide), h .rehearsal (by decide), h .roster (by decide), h .zones (by decide), h .rules (by decide),
      h .loader (by decide), trivial, h .settings (by decide), h .store (by decide), h .bus (by decide),
      h .moment (by decide), h .pending (by decide)⟩
  have alike : Alike false l { t with lanes := s.lanes } { t with lanes := t.lanes } :=
    (Alike.refl t).lanes fun h => by cases h
  rwa [lanes] at alike

/-- R57: the tally does not read the lanes. -/
theorem unchanged_tally (h : Unchanged [.lanes] s t) : Unchanged [.lanes] s.tally t.tally := by
  have alike := (alike_of_unchanged (l := true) h).tally
  have left := frame_tally s
  have right := frame_tally t
  intro b hb
  by_cases counted : b = .sched ∨ b = .scale
  · rcases counted with rfl | rfl
    · exact (alike.read fun u => u.sched).symm
    · exact (alike.read fun u => u.scale).symm
  · have other : b ∉ [.sched, .scale, .lanes] := by simp_all
    have back : b.agree s.tally s := by
      have := left b other
      cases b <;> exact this.symm
    exact Block.agree_trans (Block.agree_trans back (h b hb)) (right b other)

/-- R113: the end of an event leaves what a lane owes, and whether it is HELD. -/
theorem lane_finish (s : State) (p : Pos) :
    (s.finish.lane p).inbound = (s.lane p).inbound ∧ (s.finish.lane p).owed = (s.lane p).owed := by
  have lane : s.finish.lane p = s.refreshOffers.lane p := rfl
  rw [lane, lane_refreshOffers]
  split
  · split <;> exact ⟨rfl, rfl⟩
  · exact ⟨rfl, rfl⟩

theorem owes_finish {p : Pos} {r : Request} {code : Code} {b : List Byte} (s : State) :
    Owes p r code b (s.owe p (r.response { code := code, content := b })).finish := by
  obtain ⟨inbound, owed⟩ := lane_finish (s.owe p (r.response { code := code, content := b })) p
  unfold Owes
  rw [inbound, owed, lane_owe, if_pos rfl]
  exact ⟨rfl, rfl⟩

/-- R51: the notice of an entry that has changed waits with the controllers when the event is over. -/
theorem waits_prompt {i : Fin 16} {new : Source} {w u : State} {c : Ctl} (changed : (w.source i).changed new = true)
    (fit : w.recordsFit) (occupied : w.occupied (ctlPos c) = true) (few : (w.lane (ctlPos c)).board.length ≤ 10)
    (after : Carries ∅ (· = .sourceState i new (new.spent w.time.t)) 1 (w.prompt i new) u) :
    waits (u.lane (ctlPos c)).board (.sourceState i new (new.spent w.time.t)) := by
  have controller : decide ((ctlPos c).val < 2) = true := by cases c <;> rfl
  have board : ((w.putSource i new).lane (ctlPos c)).board =
      queueOn w.moment (.sourceState i new (new.spent w.time.t)) (w.lane (ctlPos c)).board := by
    rw [putSource_eq, if_pos changed]
    unfold State.notifyControllers
    rw [lane_notify, if_pos (by rw [controller]; exact occupied)]
    rfl
  have told : waits ((w.putSource i new).lane (ctlPos c)).board (.sourceState i new (new.spent w.time.t)) := by
    rw [board]
    exact waits_queueOn (fun old => by cases old <;> rfl) _ (by omega)
  have grown : surplus ∅ (keysOn ((w.putSource i new).lane (ctlPos c)).board) ≤ 11 := by
    rw [board]
    exact (grows_queueOn (Q := fun _ => False) (.inr rfl) (fun _ q => q.elim) _ _ 10 (by simp)
      ((surplus_le_board _).trans few)).1
  have records : (w.putSource i new).records = w.records := by
    rw [putSource_eq]
    split <;> rfl
  have quotas := ((State.recordsFit_iff w).mp fit).1
  have twenty : w.records.length ≤ 20 := by simpa using changesFit_length quotas.1
  have five : w.scaleCount ≤ 5 := scaleCount_le quotas
  have tallied : Carries ∅ (· = .sourceState i new (new.spent w.time.t)) 36 (w.putSource i new) (w.prompt i new) := by
    unfold State.prompt
    rw [if_pos changed]
    refine (carries_tally (fun y e => ?_) (records ▸ quotas)).mono ?_
    · subst e
      simp [Notice.isArmed, Notice.code]
    · unfold State.scaleCount at five ⊢
      rw [records]
      omega
  exact (tallied.trans after).waits grown (by simp) rfl told

/-- R35, R48: a request that rewrites entry `i` and is accepted. -/
theorem deliver_prompt {p : Pos} {r : Request} {i : Fin 16} {new : Source} {b : List Byte} (h : s.hears p = true)
    (k : r.payload.length ≤ 30)
    (e : perform false p r (s.judged p r) = accept ((s.judged p r).prompt i new) b) :
    Owes p r .accepted b (s.deliver p r) ∧ (s.deliver p r).source i = new ∧
    (∀ j, j ≠ i → (s.deliver p r).source j = s.source j) ∧
    Unchanged [.sources, .sched, .scale, .lanes, .store, .moment] s (s.deliver p r) ∧
    Reheard i (s.judged p r) (s.deliver p r) := by
  have deliver : s.deliver p r =
      (((s.judged p r).prompt i new).owe p (r.response { code := .accepted, content := b })).finish := by
    rw [State.deliver_eq h k, State.takeRequest, e]
    rfl
  generalize ht : s.deliver p r = t at deliver ⊢
  have judged := frame_judged p r s
  generalize s.judged p r = w at deliver judged e ⊢
  have ended : Unchanged [.lanes, .store] (w.prompt i new) t := by
    rw [deliver]
    exact (frame_owe p _ _).mono.trans (frame_finish _)
  have prompted : Unchanged [.lanes] (if (w.source i).changed new then (w.rewritten i new).tally else w.rewritten i new)
      (w.prompt i new) := by
    unfold State.prompt
    split
    · exact unchanged_tally (frame_lanes_putSource i new w)
    · exact frame_lanes_putSource i new w
  have source (j : Fin 16) : t.source j = if i = j then new else w.source j := by
    rw [ended.source_eq, ← source_putSource j i new w]
    unfold State.prompt
    split
    · exact (frame_tally _).source_eq (by decide) j
    · rfl
  have own : t.source i = new := by rw [source, if_pos rfl]
  refine ⟨by rw [deliver]; exact owes_finish _, own, fun j hj => ?_, ?_, ?_⟩
  · rw [source, if_neg (Ne.symm hj), judged.source_eq]
  · exact (judged.mono.trans (frame_prompt i new w).mono).trans ended.mono
  · have changes : ((w.source i).state ≠ new.state ∨ (w.source i).key ≠ new.key ∨ (w.source i).vouched ≠ new.vouched) ↔
        (w.source i).changed new = true := by
      simp only [Source.changed, Bool.or_eq_true, decide_eq_true_eq]
      tauto
    have marks : ((w.source i).key = new.key ∧
        (w.source i).vouched.map (View.effective w.time.t) = new.vouched.map (View.effective w.time.t)) ↔
        (w.source i).keepsMark w.time.t new = true := by
      unfold Source.keepsMark
      rw [Bool.and_eq_true, decide_eq_true_iff, decide_eq_true_iff]
      exact and_comm
    unfold Reheard
    dsimp only
    rw [own]
    simp only [changes, marks]
    refine ⟨(prompted.mono).trans ended, fun changed fit c occupied few => ?_⟩
    refine waits_prompt changed fit occupied few ?_
    have owed : Carries ∅ (· = .sourceState i new (new.spent w.time.t)) 0 (w.prompt i new)
        ((w.prompt i new).owe p (r.response { code := .accepted, content := b })) := by
      refine carries_boards fun q => ?_
      rw [lane_owe]
      split
      · next hq => subst hq; rfl
      · rfl
    rw [deliver]
    refine owed.trans (n' := 1) (carries_finish (.inr rfl) (fun y hy => ?_) _)
    subst hy
    simp [Notice.isArmed, Notice.key, Notice.code]

/-- R167: a request that is refused. -/
theorem turnedDown {p : Pos} {r : Request} {code : Code} (hs : s.settled) (h : s.hears p = true)
    (k : r.payload.length ≤ 30) (e : perform false p r (s.judged p r) = refuse (s.judged p r) code) :
    TurnedDown p r code [] s (s.deliver p r) := by
  rw [State.deliver_refused hs h k e]
  refine ⟨⟨?_, fun q hq => ?_⟩, (frame_judged p r s).trans (frame_owe p _ _).mono⟩
  · rw [lane_owe, if_pos rfl, lane_judged, if_pos rfl]
    rfl
  · rw [lane_owe, if_neg (Ne.symm hq), lane_judged, if_neg (Ne.symm hq)]

/-! ### ANNOUNCE and MUTE_SOURCE -/

/-- R184: the codes of the origins. -/
theorem originOf_eq_some (code : Byte) (o : SourceOrigin) : originOf code = some o ↔ code.toNat = o.number := by
  have byte (n : Nat) (hn : n < 256) : code = BitVec.ofNat 8 n ↔ code.toNat = n := by
    rw [← BitVec.toNat_inj, BitVec.toNat_ofNat]
    omega
  unfold originOf
  split
  · next h =>
    rw [show (0 : Byte) = BitVec.ofNat 8 0 from rfl, byte 0 (by decide)] at h
    rw [h]
    cases o <;> decide
  · split
    · next h =>
      rw [show (1 : Byte) = BitVec.ofNat 8 1 from rfl, byte 1 (by decide)] at h
      rw [h]
      cases o <;> decide
    · split
      · next h =>
        rw [show (2 : Byte) = BitVec.ofNat 8 2 from rfl, byte 2 (by decide)] at h
        rw [h]
        cases o <;> decide
      · next h0 h1 h2 =>
        rw [show (0 : Byte) = BitVec.ofNat 8 0 from rfl, byte 0 (by decide)] at h0
        rw [show (1 : Byte) = BitVec.ofNat 8 1 from rfl, byte 1 (by decide)] at h1
        rw [show (2 : Byte) = BitVec.ofNat 8 2 from rfl, byte 2 (by decide)] at h2
        cases o <;> simp [SourceOrigin.number, h0, h1, h2]

/-- R37: of the entries of a list, the STALE one longest unheard, the first among equals. -/
def State.stalestOf (s : State) (l : List (Fin 16)) : Option (Fin 16) → Prop
  | none => ∀ j ∈ l, (s.source j).state ≠ .stale
  | some i => i ∈ l ∧ (s.source i).state = .stale ∧ ∀ j ∈ l, (s.source j).state = .stale →
      (s.source j).silence < (s.source i).silence ∨ (s.source j).silence = (s.source i).silence ∧ i ≤ j

/-- R37: the STALE entry longest unheard of those before `i` and of `i` itself. -/
def State.orLonger (s : State) (best : Option (Fin 16)) (i : Fin 16) : Option (Fin 16) :=
  if (s.source i).state = .stale then
    match best with
    | none => some i
    | some j => if (s.source j).silence < (s.source i).silence then some i else some j
  else best

theorem stalest_eq (s : State) : s.stalest = allEntries.foldl s.orLonger none := rfl

/-- R37: one entry more, of a higher index than those before it. -/
theorem stalestOf_append {s : State} {l : List (Fin 16)} {best : Option (Fin 16)} {i : Fin 16} (h : s.stalestOf l best)
    (last : ∀ j ∈ l, j < i) : s.stalestOf (l ++ [i]) (s.orLonger best i) := by
  unfold State.orLonger
  split
  · next stale =>
    cases best with
    | none =>
      refine ⟨by simp, stale, fun j hj stale' => ?_⟩
      rcases List.mem_append.mp hj with hj | hj
      · exact absurd stale' (h j hj)
      · exact .inr (by simp_all)
    | some k =>
      obtain ⟨mem, staleK, least⟩ := h
      dsimp only
      split
      · next longer =>
        refine ⟨by simp, stale, fun j hj stale' => ?_⟩
        rcases List.mem_append.mp hj with hj | hj
        · left
          rcases least j hj stale' with h | ⟨h, -⟩ <;> omega
        · exact .inr (by simp_all)
      · next notLonger =>
        refine ⟨List.mem_append_left _ mem, staleK, fun j hj stale' => ?_⟩
        rcases List.mem_append.mp hj with hj | hj
        · exact least j hj stale'
        · obtain rfl : j = i := by simpa using hj
          rcases Nat.lt_or_eq_of_le (Nat.not_lt.mp notLonger) with less | same
          · exact .inl less
          · exact .inr ⟨same, (last k mem).le⟩
  · next notStale =>
    cases best with
    | none =>
      intro j hj
      rcases List.mem_append.mp hj with hj | hj
      · exact h j hj
      · simp_all
    | some k =>
      obtain ⟨mem, staleK, least⟩ := h
      refine ⟨List.mem_append_left _ mem, staleK, fun j hj stale' => ?_⟩
      rcases List.mem_append.mp hj with hj | hj
      · exact least j hj stale'
      · simp_all

theorem stalest_spec (s : State) : s.stalestOf allEntries s.stalest := by
  rw [stalest_eq]
  have ascending : allEntries.Pairwise (· < ·) := by decide
  generalize allEntries = l at ascending
  induction l using List.reverseRecOn with
  | nil => exact fun _ h => by simp at h
  | append_singleton l x ih =>
    obtain ⟨before, -, last⟩ := List.pairwise_append.mp ascending
    rw [List.foldl_append]
    exact stalestOf_append (ih before) fun j hj => last j hj x (by simp)

theorem freeEntry_spec (s : State) :
    match allEntries.find? fun i => decide ((s.source i).state = .free) with
    | some i => (s.source i).state = .free ∧ ∀ j, (s.source j).state = .free → i ≤ j
    | none => ∀ j, (s.source j).state ≠ .free := by
  split
  · next i h =>
    obtain ⟨free, l, l', split, before⟩ := List.find?_eq_some_iff_append.mp h
    have ascending : allEntries.Pairwise (· < ·) := by decide
    rw [split] at ascending
    obtain ⟨-, after, -⟩ := List.pairwise_append.mp ascending
    refine ⟨of_decide_eq_true free, fun j hj => ?_⟩
    have mem : j ∈ l ++ i :: l' := split ▸ mem_allEntries j
    rcases List.mem_append.mp mem with mem | mem
    · exact absurd hj (by simpa using before j mem)
    · rcases List.mem_cons.mp mem with rfl | mem
      · exact Nat.le_refl _
      · exact (List.rel_of_pairwise_cons after mem).le
  · next h => exact fun j => by simpa using List.find?_eq_none.mp h j (mem_allEntries j)

/-- R36, R37: the entry that a new key takes. -/
theorem roomFor_spec (s : State) :
    match s.roomFor with
    | some i => (s.source i).state = .free ∧ (∀ j, (s.source j).state = .free → i ≤ j) ∨
        (∀ j, (s.source j).state ≠ .free) ∧ (s.source i).state = .stale ∧
          ∀ j, (s.source j).state = .stale → (s.source j).silence < (s.source i).silence ∨
            (s.source j).silence = (s.source i).silence ∧ i ≤ j
    | none => ∀ j, (s.source j).state ≠ .free ∧ (s.source j).state ≠ .stale := by
  have free := freeEntry_spec s
  have stale := stalest_spec s
  unfold State.roomFor
  generalize (allEntries.find? fun i => decide ((s.source i).state = .free)) = first at free ⊢
  cases first with
  | some i => exact .inl free
  | none =>
    dsimp only
    generalize s.stalest = best at stale ⊢
    cases best with
    | none => exact fun j => ⟨free j, stale j (mem_allEntries j)⟩
    | some i =>
      obtain ⟨-, staleI, least⟩ := stale
      exact .inr ⟨free, staleI, fun j => least j (mem_allEntries j)⟩

/-- The entry that takes a view under key `k`, once it has heard it. -/
def State.heardBy (k : SourceKey) (v : View) (i : Fin 16) (s : State) : Source :=
  (if (s.source i).key = some k then s.source i else Source.fresh k s.time.t).hear (s.value Config.persistence) s.time.t v

theorem takeView_eq {k : SourceKey} {v : View} {s w : State} (h : Unchanged [.lanes, .moment] s w) :
    takeView false k v w =
      match (s.entryOf k).or s.roomFor with
      | none => refuse w .tableFull
      | some i => accept (w.prompt i (s.heardBy k v i)) (oneByte i.val ++ oneByte (s.heardBy k v i).state.number ++
          oneByte (s.heardBy k v i).run) := by
  have sources : w.sources = s.sources := h .sources (by decide)
  have time : w.time = s.time := h .time (by decide)
  have settings : w.settings = s.settings := h .settings (by decide)
  obtain ⟨⟩ := s
  obtain ⟨⟩ := w
  cases sources
  cases time
  cases settings
  rfl

/-- Settles O41: the refusals check by check, and an acceptance by `deliver_prompt` of the entry that has heard. -/
theorem announceJudged : Obligations.AnnounceJudged := by
  unfold Obligations.AnnounceJudged
  refine ⟨originOf_eq_some, fun s p origin ds kind instant hs h => ?_⟩
  refine ⟨s.deliver p (.announce origin ds kind instant), rfl, ?_⟩
  have short : (Request.announce origin ds kind instant).payload.length ≤ 30 := by
    cases instant <;> simp [Request.payload]
  have refused {code : Code} := turnedDown (code := code) hs h short
  have performed : perform false p (.announce origin ds kind instant) (s.judged p (.announce origin ds kind instant)) =
      announce false p origin ds kind instant (s.judged p (.announce origin ds kind instant)) := rfl
  unfold announce at performed
  dsimp only
  split
  · next horigin =>
    rw [horigin] at performed
    exact refused performed
  · next o horigin =>
    rw [horigin] at performed
    dsimp only at performed
    split
    · next line =>
      rw [if_pos (by simpa using line)] at performed
      exact refused performed
    · next line =>
      rw [if_neg (by simpa using line)] at performed
      split
      · next big =>
        rw [if_pos big] at performed
        exact refused performed
      · next small =>
        rw [if_neg small] at performed
        have time : (s.judged p (.announce origin ds kind instant)).time.t = s.time.t := rfl
        rw [time] at performed
        split
        · next code hview =>
          rw [hview] at performed
          exact refused performed
        · next v hview =>
          rw [hview] at performed
          dsimp only at performed
          rw [takeView_eq (frame_judged p _ s)] at performed
          split
          · next full =>
            rw [full] at performed
            refine ⟨refused performed, fun j => ?_⟩
            obtain ⟨none, room⟩ := Option.or_eq_none_iff.mp full
            have spec := roomFor_spec s
            rw [room] at spec
            exact ⟨by simpa using List.find?_eq_none.mp none j (mem_allEntries j), spec j⟩
          · next i hi =>
            rw [hi] at performed
            dsimp only at performed ⊢
            have held := key_of_entryOr hi
            obtain ⟨owes, source, others, unchanged, reheard⟩ := deliver_prompt h short performed
            refine ⟨owes, source.trans ?_, others, unchanged, reheard, ?_⟩
            · unfold State.heardBy
              split
              · next key => rw [← key]; rfl
              · rfl
            · refine held.imp_right fun ⟨absent, new⟩ => ⟨new, ?_⟩
              rw [absent, Option.none_or] at hi
              have spec := roomFor_spec s
              rwa [hi] at spec

/-- R48, R49: the state of entry `e` of position `q` after MUTE_SOURCE. -/
def State.mutedTo (q : Pos) (mute : Bool) (e : Source) (s : State) : SourceState :=
  if mute then .muted
  else if e.state ≠ .muted then e.state
  else if s.occupied q = false ∨ s.value Config.stalenessLimit ≤ e.silence then .stale
  else if e.vouched.isSome then .vouching else .listening

theorem unmuted_eq {s : State} {e : Source} {q : Pos} {o : SourceOrigin} (key : e.key = some ⟨q, o⟩)
    (muted : e.state = .muted) : s.unmuted e = s.mutedTo q false e := by
  unfold State.unmuted State.mutedTo
  rw [key]
  cases occupied : s.occupied q <;> by_cases silent : s.value Config.stalenessLimit ≤ e.silence <;>
    simp [muted, occupied, silent]

theorem muteSource_eq {p : Pos} {target origin : Byte} {o : SourceOrigin} {i : Fin 16} {mute : Bool} {s : State}
    (lead : s.holdsLead p = true) (short : target.toNat < 12) (ho : originOf origin = some o)
    (hi : s.entryOf ⟨⟨target.toNat, short⟩, o⟩ = some i) :
    muteSource p target origin (some mute) s =
      accept (s.prompt i { s.source i with state := s.mutedTo ⟨target.toNat, short⟩ mute (s.source i) }) := by
  have key : (s.source i).key = some ⟨⟨target.toNat, short⟩, o⟩ := by simpa using List.find?_some hi
  unfold muteSource
  rw [lead, dif_pos short, ho]
  dsimp only
  rw [hi]
  dsimp only
  cases mute with
  | true => rfl
  | false =>
    by_cases muted : (s.source i).state = .muted
    · simp only [Bool.not_true, Bool.false_eq_true, if_false, if_pos muted, unmuted_eq key muted]
    · have kept : s.mutedTo ⟨target.toNat, short⟩ false (s.source i) = (s.source i).state := if_pos muted
      simp only [Bool.not_true, Bool.false_eq_true, if_false, if_neg muted, kept]
      exact congrArg accept (prompt_self i s).symm

/-- Settles O43: the refusals check by check, and an acceptance by `deliver_prompt` of the entry in its new state. -/
theorem muteSourceJudged : Obligations.MuteSourceJudged := by
  unfold Obligations.MuteSourceJudged
  refine ⟨originOf_eq_some, fun s p target origin mute hs h => ?_⟩
  have performed : perform false p (.muteSource target origin (if mute then 0 else 1))
      (s.judged p (.muteSource target origin (if mute then 0 else 1))) = muteSource p target origin (some mute)
      (s.judged p (.muteSource target origin (if mute then 0 else 1))) := by cases mute <;> rfl
  refine ⟨s.deliver p (.muteSource target origin (if mute then 0 else 1)), by cases mute <;> rfl, ?_⟩
  generalize hr : Request.muteSource target origin (if mute then 0 else 1) = r at performed ⊢
  have short : r.payload.length ≤ 30 := by subst hr; simp [Request.payload]
  have refused {code : Code} := turnedDown (code := code) hs h short
  have lead : (s.judged p r).holdsLead p = s.holdsLead p := rfl
  dsimp only
  split
  · next notLead =>
    refine refused ?_
    rw [performed, muteSource, lead, notLead]
    rfl
  · next isLead =>
    rw [Bool.not_eq_false] at isLead
    by_cases few : target.toNat < 12
    · rw [dif_pos few]
      split
      · next o q ho hq =>
        cases hq
        have entry : (s.judged p r).entryOf ⟨⟨target.toNat, few⟩, o⟩ = s.entryOf ⟨⟨target.toNat, few⟩, o⟩ := rfl
        split
        · next absent =>
          refine refused ?_
          rw [performed, muteSource, lead, isLead, dif_pos few, ho]
          dsimp only
          rw [entry, absent]
          rfl
        · next i hi =>
          rw [muteSource_eq (lead.trans isLead) few ho (entry.trans hi)] at performed
          obtain ⟨owes, source, others, unchanged, reheard⟩ := deliver_prompt h short performed
          exact ⟨owes, others, unchanged, reheard, source⟩
      · next unknown =>
        refine refused ?_
        have ho : originOf origin = none := by
          cases ho : originOf origin with
          | none => rfl
          | some o => exact (unknown o _ ho rfl).elim
        rw [performed, muteSource, lead, isLead, dif_pos few, ho]
        rfl
    · rw [dif_neg few]
      split
      · next hq => cases hq
      · refine refused ?_
        rw [performed, muteSource, lead, isLead, dif_neg few]
        rfl

end

end Sys2Proof.Machine

namespace Sys2Proof.Machine

set_option Elab.async false

/-! ### What CLEAR_SCALE leaves behind (R52, R78, R84, R96) -/

section
variable {s t : State}

/-- R96: the scale register after a CLEAR_SCALE of generation `g` in second `n`. -/
def clearedScale (g : BitVec 16) (n : Option Nat) : Scale :=
  { d := none, provisional := false, g := g, inserting := none,
    history := [{ gen := g, kind := .clear, id := none, instant := none, affected := none,
                  dAfter := none, shift := none, applied := n }],
    groups := [], clearPending := false, confirmPending := false }

/-- A device without D, records, sources and rehearsal. -/
structure Bare (g : BitVec 16) (n : Option Nat) (cursor : Nat) (s : State) : Prop where
  scale : s.scale = clearedScale g n
  records : s.records = []
  listed : s.sched.listed = []
  refused : s.sched.refused = none
  cursor : s.sched.cursor = cursor
  marks : ∀ i, s.sched.marks.get i = false
  free : ∀ i, (s.source i).state = .free
  phase : s.rehearsal.phase = .none

/-- R84, R96: step 1 in all but the sources and the notices. -/
def State.wiped (s : State) : State :=
  State.addHistory (fun g =>
    { gen := g, kind := .clear, id := none, instant := none, affected := none, dAfter := none, shift := none,
      applied := s.time.t })
    { s with
      scale := { s.scale with
        d := none, provisional := false, confirmPending := false, inserting := none, groups := [], history := [],
        clearPending := false }
      sched := { s.sched with
        records := [], listed := [], refused := none, marks := .fill 16 false } }

theorem clearAll_eq (s : State) : s.clearAll =
    (s.cancelRehearsal.wiped.freeSources.clearBoards Notice.isArmed).notifyAll
      (.applied s.cancelRehearsal.wiped.freeSources.scale.g s.cancelRehearsal.wiped.freeSources.scale.g 0 0 0 true) := by
  unfold State.clearAll
  generalize s.cancelRehearsal = u
  have wiped (u : State) : u.wiped = State.addHistory (fun g =>
      { gen := g, kind := .clear, id := none, instant := none, affected := none, dAfter := none, shift := none,
        applied := u.time.t })
      { u with
        scale := { u.scale with
          d := none, provisional := false, confirmPending := false, inserting := none, groups := [], history := [],
          clearPending := false }
        sched := { u.sched with
          records := [], listed := [], refused := none, marks := .fill 16 false } } := rfl
  rw [wiped]

theorem scale_wiped (s : State) : s.wiped.scale = clearedScale (s.scale.g + 1) s.time.t := rfl

theorem phase_cancelRehearsal (s : State) : s.cancelRehearsal.rehearsal.phase = .none := by
  unfold State.cancelRehearsal
  split
  · rfl
  · next idle => simpa [Rehearsal.running] using idle

/-- R52: an entry after CLEAR_SCALE. -/
def Source.freed (e : Source) : Source := if e.state = .free then e else .initial

/-- R52: entry `i` freed. -/
def State.freeEntry (s : State) (i : Fin 16) : State := if (s.source i).state = .free then s else s.putSource i .initial

theorem freeSources_eq (s : State) : s.freeSources = allEntries.foldl State.freeEntry s := rfl

theorem source_foldFree {l : List (Fin 16)} (distinct : l.Nodup) (s : State) (i : Fin 16) :
    (l.foldl State.freeEntry s).source i = if i ∈ l then (s.source i).freed else s.source i := by
  refine source_foldEntries (g := Source.freed) (fun s i j => ?_) distinct s i
  unfold State.freeEntry Source.freed
  split
  · next free =>
    split
    · next e => subst e; rw [if_pos free]
    · rfl
  · next used =>
    rw [source_putSource]
    split
    · next e => subst e; rw [if_neg used]
    · rfl

theorem source_freeSources (s : State) (i : Fin 16) : s.freeSources.source i = (s.source i).freed := by
  rw [freeSources_eq, source_foldFree (by decide), if_pos (mem_allEntries i)]

theorem state_freed (e : Source) : e.freed.state = .free := by
  unfold Source.freed
  split
  · assumption
  · rfl

/-- A mark once clear stays clear, whichever entry is rewritten. -/
theorem sched_putSource (i : Fin 16) (e : Source) (s : State) :
    (s.putSource i e).sched = { s.sched with marks := (s.putSource i e).sched.marks } := by
  rw [putSource_eq]
  split <;> rfl

theorem sched_freeSources (s : State) (unmarked : ∀ i, s.sched.marks.get i = false) :
    s.freeSources.sched = { s.sched with marks := s.freeSources.sched.marks } ∧
    ∀ i, s.freeSources.sched.marks.get i = false := by
  rw [freeSources_eq]
  generalize allEntries = l
  induction l generalizing s with
  | nil => exact ⟨rfl, unmarked⟩
  | cons j l ih =>
    rw [List.foldl_cons, State.freeEntry]
    split
    · exact ih s unmarked
    · obtain ⟨sched, marks⟩ := ih (s.putSource j .initial) fun i => by
        rw [marks_putSource]
        split <;> simp [unmarked]
      exact ⟨sched.trans (by rw [sched_putSource]), marks⟩

theorem bare_clearAll (s : State) : Bare (s.scale.g + 1) s.time.t s.sched.cursor s.clearAll := by
  rw [clearAll_eq]
  have cancelled := frame_cancelRehearsal s
  have phase := phase_cancelRehearsal s
  have scale : s.cancelRehearsal.scale = s.scale := cancelled .scale (by decide)
  have time : s.cancelRehearsal.time = s.time := cancelled .time (by decide)
  have sched : s.cancelRehearsal.sched = s.sched := cancelled .sched (by decide)
  generalize s.cancelRehearsal = u at *
  have freed := frame_freeSources u.wiped
  obtain ⟨wiped, marks⟩ := sched_freeSources u.wiped fun i => Tab.get_fill ..
  have source := source_freeSources u.wiped
  have scale' : u.wiped.freeSources.scale = u.wiped.scale := freed .scale (by decide)
  have rehearsal : u.wiped.freeSources.rehearsal = u.rehearsal := freed .rehearsal (by decide)
  generalize u.wiped.freeSources = v at *
  have noted : Unchanged [.lanes] v ((v.clearBoards Notice.isArmed).notifyAll (.applied v.scale.g v.scale.g 0 0 0 true)) :=
    (frame_clearBoards _ v).trans (frame_notifyAll _ _)
  generalize (v.clearBoards Notice.isArmed).notifyAll (.applied v.scale.g v.scale.g 0 0 0 true) = w at *
  have sched' : w.sched = v.sched := noted .sched (by decide)
  refine ⟨?_, ?_, ?_, ?_, ?_, fun i => ?_, fun i => ?_, ?_⟩
  · rw [show w.scale = v.scale from noted .scale (by decide), scale', scale_wiped, scale, time]
  · unfold State.records; rw [sched', wiped]; rfl
  · rw [sched', wiped]; rfl
  · rw [sched', wiped]; rfl
  · rw [sched', wiped, ← sched]; rfl
  · rw [sched', marks]
  · rw [noted.source_eq, source, state_freed]
  · rw [show w.rehearsal = v.rehearsal from noted .rehearsal (by decide), rehearsal, phase]

section
variable {g : BitVec 16} {n : Option Nat} {cursor : Nat} (bare : Bare g n cursor s)
include bare

theorem Bare.of_unchanged {but : List Block} (h : Unchanged but s t) (scale : Block.scale ∉ but := by decide)
    (sched : Block.sched ∉ but := by decide) (sources : Block.sources ∉ but := by decide)
    (rehearsal : Block.rehearsal ∉ but := by decide) : Bare g n cursor t := by
  have scale : t.scale = s.scale := h .scale scale
  have sched : t.sched = s.sched := h .sched sched
  have rehearsal : t.rehearsal = s.rehearsal := h .rehearsal rehearsal
  have source := h.source_eq sources
  obtain ⟨a, b, c, d, e, f, free, k⟩ := bare
  unfold State.records at b
  exact ⟨scale ▸ a, by unfold State.records; rw [sched, b], sched ▸ c, sched ▸ d, sched ▸ e, sched ▸ f,
    fun i => source i ▸ free i, rehearsal ▸ k⟩

theorem Bare.setRecords : s.setRecords [] = s := by
  have := bare.records
  unfold State.records at this
  unfold State.setRecords
  rw [show sortBy Record.before [] = s.sched.records from this.symm]

theorem Bare.voters : s.voters = [] := by
  unfold State.voters
  refine List.filterMap_eq_nil_iff.mpr fun i _ => ?_
  unfold State.voter
  dsimp only
  rw [bare.free i]

theorem Bare.tally : s.tally = { s with sched := { s.sched with agreement := 0 } } := by
  have counts : (s.tallyCounts []).tallyAgreement = { s with sched := { s.sched with agreement := 0 } } := by
    unfold State.tallyCounts
    dsimp only
    rw [bare.records, List.map_nil, bare.setRecords]
    unfold State.tallyAgreement
    rw [show ({ s with sched := { s.sched with agreement := weightOf (Voter.agrees s.scale.d) [] } } : State).scale.d =
      none from congrArg Scale.d bare.scale]
    rfl
  unfold State.tally
  rw [bare.voters]
  dsimp only
  rw [counts]
  generalize hu : { s with sched := { s.sched with agreement := 0 } } = u
  have bare' : Bare g n cursor u := by
    subst hu
    obtain ⟨a, b, c, d, e, f, free, k⟩ := bare
    exact ⟨a, b, c, d, e, f, free, k⟩
  have lapse : u.tallyLapse = u := by unfold State.tallyLapse; rw [bare'.records]; rfl
  have purge : u.tallyPurge [] = u := by
    unfold State.tallyPurge
    dsimp only
    rw [bare'.listed, List.filter_nil, ← bare'.listed]
  have newcomers : u.tallyNewcomers [] = u := by
    have new : u.newcomers [] = [] := rfl
    have held : u.holdsBack = false := by unfold State.holdsBack; rw [bare'.listed]; rfl
    unfold State.tallyNewcomers
    rw [new, held]
    unfold placeAll State.setRefused
    dsimp only
    rw [if_neg Bool.false_ne_true, ← bare'.refused]
  have qualify : u.tallyQualify [] = u := by unfold State.tallyQualify; simp [bare'.records]
  have oppose : u.tallyOppose = u := by unfold State.tallyOppose; rw [bare'.records]; rfl
  have release : u.tallyRelease [] = u := by
    unfold State.tallyRelease
    simp [bare'.records, bare'.setRecords]
  rw [lapse, purge, newcomers, qualify, oppose, release]

theorem Bare.install (r : RuleStore) : s.install r = { s with rules := r } := by
  unfold State.install
  dsimp only
  rw [show ({ s with rules := r } : State).records = [] from bare.records]
  rfl

theorem Bare.boundaryVerify : Unchanged [.rules, .lanes, .loader] s s.boundaryVerify := by
  unfold State.boundaryVerify
  refine Unchanged.ite _ ?_ (Unchanged.refl _ s)
  split
  · rw [bare.install]
    exact ((frame_withRules _ s).mono.trans (frame_answerClaimer _ _ _).mono).trans (frame_idleLoader _).mono
  · exact (frame_answerClaimer _ _ s).mono.trans (frame_idleLoader _).mono

theorem Bare.boundaryArm (retime : Bool) : s.boundaryArm retime = s := by
  have dissolve : s.dissolveEmpty = s := by
    unfold State.dissolveEmpty
    dsimp only
    rw [bare.scale]
    exact congrArg (fun c => { s with scale := c }) bare.scale.symm
  have pass (m : Nat) : s.missedPass m retime = s := by
    unfold State.missedPass
    dsimp only
    rw [bare.records, List.filter_nil, List.filter_nil, List.foldl_nil, bare.setRecords, dissolve]
  have arming (m : Nat) : s.armingPass m = s := by
    unfold State.armingPass
    rw [bare.records]
    have armAll : s.armAll m [] = s := rfl
    have pending (real : Bool) : s.settlePending m real = s := by
      unfold State.settlePending
      rw [bare.phase]
      rfl
    simp only [List.filter_nil, List.foldl_nil, List.take_nil, List.append_nil, bare.records, armAll, pending,
      List.any_nil, Bool.false_eq_true, if_false]
  unfold State.boundaryArm
  split
  · rw [pass, arming]
  · rfl

theorem Bare.rest (retime : Bool) :
    (s.boundaryInserted.boundaryProvisional.boundarySettling.boundaryApply retime) = s := by
  have inserted : s.boundaryInserted = s := by
    unfold State.boundaryInserted
    rw [bare.scale]
    rfl
  have provisional : s.boundaryProvisional = s := by
    unfold State.boundaryProvisional
    rw [bare.scale]
    rfl
  have settling : s.boundarySettling = s := by
    unfold State.boundarySettling
    rw [bare.records]
    split
    · rw [List.filter_nil, bare.setRecords]
    · rfl
  rw [inserted, provisional, settling]
  unfold State.boundaryApply
  split
  · have complete (m : Nat) : s.completeRehearsal m = s := by
      unfold State.completeRehearsal Rehearsal.isArmed
      rw [bare.phase]
      rfl
    rw [bare.scale]
    exact complete _
  · rfl

theorem Bare.of_tally : Bare g n cursor s.tally := by
  rw [bare.tally]
  obtain ⟨a, b, c, d, e, f, free, k⟩ := bare
  exact ⟨a, b, c, d, e, f, free, k⟩

end

theorem cursor_putSource (i : Fin 16) (e : Source) (s : State) : (s.putSource i e).sched.cursor = s.sched.cursor := by
  rw [sched_putSource]

theorem cursor_sourced (s : State) : s.sourced.sched.cursor = s.sched.cursor := by
  have step (old : Option Nat) (rekey : Bool) (i : Fin 16) (s : State) :
      (s.boundarySource old rekey i).sched.cursor = s.sched.cursor := by
    unfold State.boundarySource
    dsimp only
    split
    · rfl
    · have noted (c : Prop) [Decidable c] (u : State) : (if c then u.noteSource i else u).sched.cursor = u.sched.cursor := by
        split <;> rfl
      rw [noted, cursor_putSource]
      split <;> rfl
  have all (old : Option Nat) (rekey : Bool) (s : State) : (s.boundarySources old rekey).sched.cursor = s.sched.cursor := by
    unfold State.boundarySources
    generalize allEntries = l
    induction l generalizing s with
    | nil => rfl
    | cons i l ih => rw [List.foldl_cons, ih, step]
  unfold State.sourced
  dsimp only
  rw [all]
  exact congrArg Schedule.cursor (frame_boundaryMove _ _ s.nextMoment.boundaryInputs .sched (by decide))

section
variable (clear : s.scale.clearPending = true)
include clear

theorem rescaled_of_clear : s.rescaled = s.sourced.clearAll := by
  have pending : s.sourced.scale.clearPending = true := by
    rw [show s.sourced.scale = s.scale from frame_sourced s .scale (by decide), clear]
  have cleared : s.sourced.boundaryClear = s.sourced.clearAll := if_pos pending
  unfold State.rescaled State.boundaryScale
  rw [cleared]
  exact (bare_clearAll s.sourced).rest _

theorem bare_rescaled : Bare (s.scale.g + 1) s.time.advance.t s.sched.cursor s.rescaled := by
  have bare := bare_clearAll s.sourced
  rwa [← rescaled_of_clear clear, show s.sourced.scale = s.scale from frame_sourced s .scale (by decide), time_sourced,
    cursor_sourced] at bare

/-- R84, R96: after step 1 only the Loader, the agreement tally and the Roster have work. -/
theorem worked_of_clear : ∃ changed, s.worked = (s.rescaled.boundaryVerify.tally).boundaryRoster changed := by
  have verified := (bare_rescaled clear).of_unchanged (bare_rescaled clear).boundaryVerify
  unfold State.worked
  dsimp only
  rw [clear]
  have draw : s.rescaled.boundaryVerify.drawPass true = s.rescaled.boundaryVerify := rfl
  rw [draw, verified.of_tally.boundaryArm]
  exact ⟨_, rfl⟩

theorem bare_boundary : Bare (s.scale.g + 1) s.boundary.time.t s.sched.cursor s.boundary := by
  obtain ⟨changed, worked⟩ := worked_of_clear clear
  have bare := bare_rescaled clear
  have tallied := (bare.of_unchanged bare.boundaryVerify).of_tally
  have roster := tallied.of_unchanged (frame_boundaryRoster changed _)
  rw [← worked] at roster
  have time : s.boundary.time.t = s.time.advance.t := by
    rw [(boundary_of_rescaled s).1, rescaled_of_clear clear, show s.sourced.clearAll.time = s.sourced.time from
      frame_clearAll _ .time (by decide), time_sourced]
  rw [time, boundary_eq]
  exact ((((roster.of_unchanged (frame_boundaryLabels _)).of_unchanged (frame_checkBackup _)).of_unchanged
    (frame_beginSecond _)).of_unchanged (frame_finish _)).of_unchanged (frame_latch _)

theorem zones_of_clear : s.boundary.zones = s.zones := by
  obtain ⟨changed, worked⟩ := worked_of_clear clear
  have bare := bare_rescaled clear
  have cleared : Unchanged [.lanes, .rehearsal, .scale, .sched, .sources] s.sourced s.rescaled := by
    rw [rescaled_of_clear clear]
    exact frame_clearAll _
  have upTo : Unchanged [.moment, .time, .settings, .roster, .lanes, .rehearsal, .sources, .sched, .scale, .rules, .loader]
      s s.worked := by
    rw [worked]
    refine Unchanged.trans ?_ (frame_boundaryRoster _ _).mono
    refine Unchanged.trans ?_ (frame_tally _).mono
    exact ((frame_sourced s).mono.trans cleared.mono).trans bare.boundaryVerify.mono
  have zones : s.worked.zones = s.zones := upTo .zones (by decide)
  have rest (w : State) : w.boundaryLabels.checkBackup.beginSecond.finish.latch.zones = w.zones := rfl
  rw [boundary_eq, rest, zones]

end

end

end Sys2Proof.Machine

namespace Sys2Proof.Machine

set_option Elab.async false

/-! ### Notices that cost no room (R171) -/

section
variable {K : Finset (Nat × Nat)} {Q : Notice → Prop} {s t : State}

/-- A notice of key `k` costs no room, and replaces no notice of `Q`. -/
def spares (K : Finset (Nat × Nat)) (Q : Notice → Prop) (k : Nat × Nat) : Prop :=
  k ∈ K ∧ ∀ y, Q y → y.isArmed = false ∧ y.key ≠ k

theorem carries_spared {x : Notice} (h : spares K Q x.key) (who : Pos → Bool) (s : State) :
    Carries K Q 0 s (s.notifyWhere who x) := carries_notify (.inl h.1) h.2 who s

theorem carries_putSource {i : Fin 16} (h : spares K Q (0x59, i.val)) (e : Source) (s : State) :
    Carries K Q 0 s (s.putSource i e) := by
  have rewritten : Carries K Q 0 s (s.rewritten i e) := carries_boards fun _ => rfl
  rw [putSource_eq]
  exact Carries.ite (rewritten.trans₀ (carries_spared (by exact h) _ _)) rewritten

theorem carries_noteSource {i : Fin 16} (h : spares K Q (0x59, i.val)) (s : State) :
    Carries K Q 0 s (s.noteSource i) := carries_spared (by exact h) _ _

theorem carries_boundarySource {i : Fin 16} (h : spares K Q (0x59, i.val)) (old : Option Nat) (rekey : Bool) (s : State) :
    Carries K Q 0 s (s.boundarySource old rekey i) := by
  have unmark : Carries K Q 0 s (s.unmark i) := carries_boards fun _ => rfl
  unfold State.boundarySource
  dsimp only
  refine Carries.ite (Carries.refl s) ?_
  generalize ((s.source i).spent old != (s.source i).spent s.time.t) = turned
  generalize hu : (if turned then s.unmark i else s) = u
  have turn : Carries K Q 0 s u := hu ▸ Carries.ite unmark (Carries.refl s)
  refine Carries.ite ?_ (turn.trans₀ (carries_putSource h _ u))
  exact (turn.trans₀ (carries_putSource h _ u)).trans₀ (carries_noteSource h _)

theorem carries_boundarySources (h : ∀ i : Fin 16, spares K Q (0x59, i.val)) (old : Option Nat) (rekey : Bool) (s : State) :
    Carries K Q 0 s (s.boundarySources old rekey) :=
  Carries.foldl (fun s i => carries_boundarySource (h i) old rekey s) _ s

theorem carries_freeEntries {l : List (Fin 16)} (h : ∀ i ∈ l, spares K Q (0x59, i.val)) (s : State) :
    Carries K Q 0 s (l.foldl State.freeEntry s) := by
  induction l generalizing s with
  | nil => exact Carries.refl s
  | cons i l ih =>
    refine Carries.trans₀ ?_ (ih (fun j hj => h j (List.mem_cons_of_mem _ hj)) _)
    exact Carries.ite (Carries.refl s) (carries_putSource (h i (List.mem_cons_self ..)) _ s)

theorem carries_cancelRehearsal (h : spares K Q (0x61, 0)) (s : State) : Carries K Q 0 s s.cancelRehearsal := by
  have cleared : Carries K Q 0 s (s.clearBoards (Notice.armsRecord 0)) := carries_clearBoards (fun x q => by
    have := (h.2 x q).1
    cases x <;> simp_all [Notice.armsRecord, Notice.isArmed]) s
  have noted (a b : Nat) (u : State) : Carries K Q 0 u (u.noteResult a b true) := by
    unfold State.noteResult
    split
    · exact carries_spared (by exact h) _ _
    · exact Carries.refl u
  have ended (u : State) (r : Rehearsal) : Carries K Q 0 u { u with rehearsal := r } := carries_boards fun _ => rfl
  unfold State.cancelRehearsal
  refine Carries.ite ?_ (Carries.refl s)
  unfold State.endRehearsal
  dsimp only
  exact (cleared.trans₀ (noted _ _ _)).trans₀ (ended _ _)

theorem carries_boundaryMove (h : spares K Q (0x61, 0)) (old : Option Nat) (retime : Bool) (s : State) :
    Carries K Q 0 s (s.boundaryMove old retime) := by
  have moved (r : Rehearsal) : Carries K Q 0 s { s with rehearsal := r } := carries_boards fun _ => rfl
  unfold State.boundaryMove
  split
  · unfold State.moveRehearsal
    split
    · exact Carries.ite (carries_cancelRehearsal h s) (moved _)
    · exact Carries.refl s
  · exact Carries.refl s

theorem carries_noteSlot {p : Pos} (h : spares K Q (0x58, p.val)) (s : State) : Carries K Q 0 s (s.noteSlot p) :=
  carries_spared (by exact h) _ _

theorem carries_setPos (p : Pos) (x : Position) (s : State) : Carries K Q 0 s (s.setPos p x) :=
  carries_boards fun _ => rfl

theorem carries_boundaryRoster (h : ∀ p : Pos, spares K Q (0x58, p.val)) (changed : Bool) (s : State) :
    Carries K Q 0 s (s.boundaryRoster changed) := by
  refine Carries.foldl (fun s p => ?_) _ s
  dsimp only
  exact Carries.ite ((carries_setPos p _ s).trans₀ (carries_noteSlot (h p) _)) (carries_setPos p _ s)

/-- Operations on the members of a list that cost no room while `R` holds. -/
theorem grows_foldl {α : Type} {Q : Notice → Prop} {f : State → α → State} {R : State → Prop} {l : List α} {q : Pos}
    (h : ∀ s, ∀ b ∈ l, R s → Grows K Q 0 (s.lane q).board ((f s b).lane q).board) (inv : ∀ s, ∀ b ∈ l, R s → R (f s b))
    {s : State} (start : R s) : Grows K Q 0 (s.lane q).board ((l.foldl f s).lane q).board := by
  induction l generalizing s with
  | nil => exact Grows.refl _
  | cons b l ih =>
    have first : b ∈ b :: l := List.mem_cons_self ..
    have rest := ih (fun s c hc => h s c (List.mem_cons_of_mem _ hc)) (fun s c hc => inv s c (List.mem_cons_of_mem _ hc))
      (inv s b first start)
    rw [List.foldl_cons]
    exact Grows.trans (n := 0) (n' := 0) (h s b first start) rest

/-- R90: what a roll call of these results does to the Roster. -/
def State.rollSlots (roll : Roll) (s : State) : State :=
  allPos.foldl (fun s p =>
    if (s.pos p).state = .inStep && roll.get p = .notReady then (s.setPos p (s.pos p).toLagging).noteSlot p else s) s

theorem rollGroup_eq (tag : Nat) (s : State) : ∃ (c : Scale) (roll : Roll),
    s.rollGroup tag = ({ s with scale := c } : State).rollSlots roll := ⟨_, _, rfl⟩

/-- R90: a roll call tells of positions that are not EMPTY. -/
theorem carries_rollSlots (h : ∀ p : Pos, s.occupied p = true → spares K Q (0x58, p.val)) (roll : Roll) :
    Carries K Q 0 s (s.rollSlots roll) := by
  intro q
  refine grows_foldl (R := fun w => ∀ p, w.occupied p = s.occupied p) (fun w p _ same => ?_) (fun w p _ same => ?_) fun _ => rfl
  · split
    · next inStep =>
      have occupied : s.occupied p = true := by
        rw [← same]
        simp only [Bool.and_eq_true, decide_eq_true_eq] at inStep
        simp [State.occupied, inStep.1]
      exact ((carries_setPos p _ w).trans₀ (carries_noteSlot (h p occupied) _)) q
    · exact Grows.refl _
  · split
    · next inStep =>
      intro r
      simp only [Bool.and_eq_true, decide_eq_true_eq] at inStep
      have noted (v : State) : (v.noteSlot p).occupied r = v.occupied r := rfl
      rw [noted, ← same]
      unfold State.occupied
      rw [State.setPos_pos]
      split
      · next e => subst e; rw [inStep.1]; rfl
      · rfl
    · exact same

theorem carries_rollCalls (h : ∀ p : Pos, s.occupied p = true → spares K Q (0x58, p.val)) :
    Carries K Q 0 s s.rollCalls := by
  have group (k : Nat) (u : State) (same : ∀ p, u.occupied p = s.occupied p) : Carries K Q 0 u (u.rollGroup k) := by
    obtain ⟨c, roll, e⟩ := rollGroup_eq k u
    rw [e]
    exact carries_rollSlots (s := { u with scale := c }) (fun p hp => h p (same p ▸ hp)) roll
  unfold State.rollCalls
  split
  · exact Carries.refl s
  · intro q
    refine Grows.trans (n := 0) (n' := 0) ?_ ((frame_rollRehearsal _).carries (by decide) q)
    exact grows_foldl (R := fun w => ∀ p, w.occupied p = s.occupied p) (fun w k _ same => group k w same q)
      (fun w k _ same p => ((upholds_rollGroup k w).occupied p).trans (same p)) fun _ => rfl

/-- R163: a lane reset leaves the board. -/
theorem carries_resetLanes (s : State) : Carries K Q 0 s s.resetLanes := by
  refine Carries.foldl (fun s p => carries_boards fun q => ?_) _ s
  unfold State.resetLane
  split
  · dsimp only
    rw [State.setLane_lane]
    split
    · next e => subst e; rfl
    · split <;> rfl
  · rfl

theorem carries_quietStart (slots : ∀ p : Pos, s.occupied p = true → spares K Q (0x58, p.val)) (offer : spares K Q (0x54, 0)) :
    Carries K Q 0 s s.quietStart := by
  unfold State.quietStart
  refine Carries.trans₀ ?_ (carries_finish (.inl offer.1) offer.2 _)
  refine Carries.trans₀ ?_ (carries_resetLanes _)
  exact (frame_nextMoment s).carries.trans₀ (carries_rollCalls slots)

theorem carries_sourced (sources : ∀ i : Fin 16, spares K Q (0x59, i.val)) (result : spares K Q (0x61, 0)) (s : State) :
    Carries K Q 0 s s.sourced := by
  unfold State.sourced
  dsimp only
  refine Carries.trans₀ ?_ (carries_boundarySources sources _ _ _)
  refine Carries.trans₀ ?_ (carries_boundaryMove result _ _ _)
  exact (frame_nextMoment s).carries.trans₀ (frame_boundaryInputs _).carries

/-- R145: a verdict leaves the boards. -/
theorem board_answerClaimer (c : Code) (b : List Byte) (s : State) (q : Pos) :
    ((s.answerClaimer c b).lane q).board = (s.lane q).board := by
  unfold State.answerClaimer
  split
  · rfl
  · dsimp only
    rw [State.setLane_lane]
    split
    · next e => subst e; rfl
    · rfl

end

/-! ### What stands on one board -/

/-- Every notice on a board meets `P`. -/
def everyNotice (P : Notice → Prop) (b : List BoardEntry) : Prop := ∀ e ∈ b, P e.notice

section
variable {P : Notice → Prop} {b : List BoardEntry} {s : State}

theorem mem_dropFirst {α : Type} {f : α → Bool} {x : α} {l : List α} (h : x ∈ dropFirst f l) : x ∈ l := by
  induction l with
  | nil => exact h
  | cons y l ih =>
    unfold dropFirst at h
    split at h
    · exact List.mem_cons_of_mem _ h
    · exact (List.mem_cons.mp h).elim (fun e => e ▸ List.mem_cons_self ..) fun h => List.mem_cons_of_mem _ (ih h)

theorem mem_trimBoard {x : BoardEntry} (h : x ∈ trimBoard b) : x ∈ b := by
  unfold trimBoard at h
  split at h
  · exact h
  · split at h
    · exact mem_dropFirst h
    · split at h
      · exact mem_dropFirst h
      · exact mem_dropFirst h

/-- R171: what stands on a board after a notice that keeps no part of the one it replaces. -/
theorem everyNotice_queueOn {n : Notice} (own : ∀ old, n.over old = n) (hn : P n)
    (hb : ∀ e ∈ b, n.sameKey e.notice = false → P e.notice) (m : Nat) : everyNotice P (queueOn m n b) := by
  rcases queueOn_cases m n b with ⟨-, e⟩ | ⟨new, e⟩ <;> rw [e] <;> intro x hx
  · obtain ⟨y, hy, rfl⟩ := List.mem_map.mp hx
    split
    · exact (own y.notice).symm ▸ hn
    · next other => exact hb y (List.mem_filter.mp hy).1 (by simpa using other)
  · have mem := (insertBy_perm BoardEntry.before ⟨m, n⟩ _).mem_iff.mp (mem_trimBoard hx)
    rcases List.mem_cons.mp mem with rfl | mem
    · exact hn
    · refine hb x (List.mem_filter.mp mem).1 ?_
      by_contra same
      refine new (List.mem_map.mpr ⟨x, mem, ?_⟩)
      exact (sameKey_iff _ _).mp (by simpa using same)

theorem everyNotice_notify {n : Notice} {q : Pos} (own : ∀ old, n.over old = n) (hn : P n) (who : Pos → Bool)
    (h : everyNotice P (s.lane q).board) : everyNotice P ((s.notifyWhere who n).lane q).board := by
  rw [lane_notify]
  split
  · exact everyNotice_queueOn own hn (fun e he _ => h e he) _
  · exact h

theorem everyNotice_boundaryRoster {q : Pos} (hn : ∀ p r, P (.slotState p r)) (changed : Bool)
    (h : everyNotice P (s.lane q).board) : everyNotice P ((s.boundaryRoster changed).lane q).board := by
  unfold State.boundaryRoster
  generalize allPos = l
  induction l generalizing s with
  | nil => exact h
  | cons p l ih =>
    rw [List.foldl_cons]
    refine ih ?_
    dsimp only
    split
    · exact everyNotice_notify (fun old => by cases old <;> rfl) (hn _ _) _ h
    · exact h

theorem everyNotice_finish {q : Pos} (hn : P .offer) (h : everyNotice P (s.lane q).board) :
    everyNotice P (s.finish.lane q).board := by
  have lane : s.finish.lane q = s.refreshOffers.lane q := rfl
  rw [lane, lane_refreshOffers]
  split
  · split
    · exact h
    · exact everyNotice_queueOn (fun old => by cases old <;> rfl) hn (fun e he _ => h e he) _
  · exact fun e he => h e (List.mem_filter.mp he).1

end

/-! ### The notices of a CLEAR_SCALE (R51, R96) -/

/-- The keys of SLOT_STATE and SOURCE_STATE. -/
def stateKeys : Finset (Nat × Nat) :=
  (Finset.univ.image fun i : Fin 16 => ((0x59 : Nat), i.val)) ∪ Finset.univ.image fun p : Pos => ((0x58 : Nat), p.val)

theorem source_mem_stateKeys (i : Fin 16) : ((0x59 : Nat), i.val) ∈ stateKeys := by simp [stateKeys]

theorem slot_mem_stateKeys (p : Pos) : ((0x58 : Nat), p.val) ∈ stateKeys := by simp [stateKeys]

/-- The keys of the notices that a CLEAR_SCALE's boundary queues. -/
def clearKeys : Finset (Nat × Nat) := stateKeys ∪ {(0x61, 0), (0x52, 0), (0x54, 0)}

theorem card_clearKeys : clearKeys.card = 31 := by decide +kernel

theorem source_mem_clearKeys (i : Fin 16) : ((0x59 : Nat), i.val) ∈ clearKeys :=
  Finset.mem_union_left _ (source_mem_stateKeys i)

theorem slot_mem_clearKeys (p : Pos) : ((0x58 : Nat), p.val) ∈ clearKeys := Finset.mem_union_left _ (slot_mem_stateKeys p)

theorem spares_clear {Q : Notice → Prop} {k : Nat × Nat} (mem : k ∈ clearKeys)
    (other : ∀ y, Q y → y.isArmed = false ∧ y.key ≠ k) : spares clearKeys Q k := ⟨mem, other⟩

section
variable {Q : Notice → Prop} {s : State}

/-- Without records a verdict removes none. -/
theorem Bare.board_boundaryVerify {g : BitVec 16} {n : Option Nat} {cursor : Nat} (bare : Bare g n cursor s) (q : Pos) :
    (s.boundaryVerify.lane q).board = (s.lane q).board := by
  have idle (u : State) : (u.idleLoader.lane q).board = (u.lane q).board := rfl
  unfold State.boundaryVerify
  split
  · split
    · rw [bare.install, idle, board_answerClaimer]
      rfl
    · rw [idle, board_answerClaimer]
  · rfl

variable (clear : s.scale.clearPending = true)
include clear

/-- What follows the CLEAR_SCALE's own notices leaves the boards to the Roster and the offers. -/
theorem board_afterClear : ∃ (u : State) (changed : Bool), s.boundary = (u.boundaryRoster changed).boundaryLabels.checkBackup.beginSecond.finish.latch ∧
    ∀ q, (u.lane q).board = (s.sourced.clearAll.lane q).board := by
  obtain ⟨changed, worked⟩ := worked_of_clear clear
  have bare := bare_rescaled clear
  refine ⟨s.rescaled.boundaryVerify.tally, changed, by rw [boundary_eq, worked], fun q => ?_⟩
  rw [(bare.of_unchanged bare.boundaryVerify).tally, ← rescaled_of_clear clear]
  exact bare.board_boundaryVerify q

theorem carries_afterClear {K : Finset (Nat × Nat)} (slots : ∀ p : Pos, spares K Q (0x58, p.val))
    (offer : spares K Q (0x54, 0)) : Carries K Q 0 s.sourced.clearAll s.boundary := by
  obtain ⟨u, changed, boundary, board⟩ := board_afterClear clear
  rw [boundary]
  refine Carries.trans₀ ?_ (frame_latch _).carries
  refine Carries.trans₀ ?_ (carries_finish (.inl offer.1) offer.2 _)
  refine Carries.trans₀ ?_ (frame_beginSecond _).carries
  refine Carries.trans₀ ?_ (frame_checkBackup _).carries
  refine Carries.trans₀ ?_ (frame_boundaryLabels _).carries
  exact (carries_boards board).trans₀ (carries_boundaryRoster slots changed u)

theorem everyNotice_afterClear {P : Notice → Prop} {q : Pos} (slots : ∀ p r, P (.slotState p r)) (offer : P .offer)
    (h : everyNotice P (s.sourced.clearAll.lane q).board) : everyNotice P (s.boundary.lane q).board := by
  obtain ⟨u, changed, boundary, board⟩ := board_afterClear clear
  rw [boundary]
  rw [← board] at h
  have roster := everyNotice_boundaryRoster slots changed h
  generalize u.boundaryRoster changed = v at roster ⊢
  have before : v.boundaryLabels.checkBackup.beginSecond.lane q = v.lane q := rfl
  have last (w : State) : w.latch.lane q = w.lane q := rfl
  rw [last]
  exact everyNotice_finish offer (before.symm ▸ roster)

end

section
variable {s : State}

/-- R96: the boards right after a CLEAR_SCALE: no ARMED notice, and of the APPLIED ones its own alone. -/
theorem everyNotice_clearAll (q : Pos) : everyNotice (fun x => x.isArmed = false ∧ (s.occupied q = true → x.code = 0x52 →
    x = .applied (s.scale.g + 1) (s.scale.g + 1) 0 0 0 true)) (s.clearAll.lane q).board := by
  have g : s.cancelRehearsal.wiped.freeSources.scale.g = s.scale.g + 1 := by
    rw [show s.cancelRehearsal.wiped.freeSources.scale = s.cancelRehearsal.wiped.scale from
      frame_freeSources _ .scale (by decide), scale_wiped,
      show s.cancelRehearsal.scale = s.scale from frame_cancelRehearsal s .scale (by decide)]
    rfl
  have occupied : s.cancelRehearsal.wiped.freeSources.occupied q = s.occupied q := by
    refine occupied_of_roster ?_ q
    rw [show s.cancelRehearsal.wiped.freeSources.roster = s.cancelRehearsal.wiped.roster from
      frame_freeSources _ .roster (by decide)]
    exact frame_cancelRehearsal s .roster (by decide)
  rw [clearAll_eq, g, ← occupied]
  generalize s.cancelRehearsal.wiped.freeSources = v
  have board : everyNotice (fun x => x.isArmed = false) ((v.clearBoards Notice.isArmed).lane q).board := by
    have lane : (v.clearBoards Notice.isArmed).lane q =
        { v.lane q with board := (v.lane q).board.filter fun e => !e.notice.isArmed } := by
      simp [State.clearBoards, State.lane]
    rw [lane]
    exact fun e he => by simpa using (List.mem_filter.mp he).2
  have same : (v.clearBoards Notice.isArmed).occupied q = v.occupied q := rfl
  unfold State.notifyAll
  rw [lane_notify, same, Bool.true_and]
  split
  · refine everyNotice_queueOn (fun old => by cases old <;> rfl) ⟨rfl, fun _ _ => rfl⟩ (fun e he other => ?_) _
    refine ⟨board e he, fun _ code => ?_⟩
    have subject : e.notice.subject = 0 := by cases h : e.notice <;> simp_all [Notice.code, Notice.subject]
    have key : e.notice.key = (0x52, 0) := Prod.ext code subject
    rw [(sameKey_iff _ _).mpr key] at other
    cases other
  · next empty => exact fun e he => ⟨board e he, fun occupied => absurd occupied empty⟩

/-- R42, R39: a boundary frees no entry. -/
theorem used_nextSource (rekey : Bool) {e : Source} (h : e.state ≠ .free) : (s.nextSource rekey e).state ≠ .free := by
  have age (limit : Nat) : (e.tick.age limit).state ≠ .free := by
    unfold Source.age
    split
    · simp
    · exact h
  have revouch (k : Nat) {e : Source} (h : e.state ≠ .free) : (e.revouch k).state ≠ .free := by
    unfold Source.revouch
    split
    · dsimp only
      split
      · simp
      · exact h
    · exact h
  unfold State.nextSource
  dsimp only
  split
  · exact revouch _ (age _)
  · exact age _

theorem used_sourced {i : Fin 16} (h : (s.source i).state ≠ .free) : (s.sourced.source i).state ≠ .free := by
  unfold State.sourced
  dsimp only
  generalize hr : s.nextMoment.boundaryInputs.boundaryMove s.time.t s.time.retimes = r
  have frame : Unchanged [.moment, .time, .settings, .roster, .lanes, .rehearsal] s r := hr ▸
    ((frame_nextMoment s).mono.trans (frame_boundaryInputs _).mono).trans (frame_boundaryMove _ _ _).mono
  have source : r.source i = s.source i := frame.source_eq (by decide) i
  unfold State.boundarySources
  rw [(entry_foldSources _ _ i (by decide) r).1, if_pos ⟨mem_allEntries i, source ▸ h⟩, source]
  exact used_nextSource _ h

/-- R51: the entry that CLEAR_SCALE frees is told. -/
theorem waits_freeSources {i : Fin 16} {c : Ctl} (used : (s.source i).state ≠ .free)
    (occupied : s.occupied (ctlPos c) = true) (few : surplus clearKeys (keysOn (s.lane (ctlPos c)).board) ≤ 10) :
    waits (s.freeSources.lane (ctlPos c)).board (.sourceState i .initial false) := by
  obtain ⟨l, m, all⟩ := List.append_of_mem (mem_allEntries i)
  have distinct : (l ++ i :: m).Nodup := all ▸ by decide
  obtain ⟨distinctL, distinctM, apart⟩ := List.nodup_append.mp distinct
  rw [freeSources_eq, all, List.foldl_append, List.foldl_cons]
  have before : Carries clearKeys (fun _ => False) 0 s (l.foldl State.freeEntry s) :=
    carries_freeEntries (fun j _ => spares_clear (source_mem_clearKeys j) fun _ q => q.elim) s
  have source : (l.foldl State.freeEntry s).source i = s.source i := by
    rw [source_foldFree distinctL, if_neg fun mem => apart i mem i (List.mem_cons_self ..) rfl]
  have frame : Unchanged [.sources, .sched, .lanes] s (l.foldl State.freeEntry s) :=
    Unchanged.foldl _ (fun s i => Unchanged.ite _ (Unchanged.refl _ s) (frame_putSource i _ s)) _ s
  have occupied' : (l.foldl State.freeEntry s).occupied (ctlPos c) = true :=
    (occupied_of_roster (frame .roster (by decide)) _).trans occupied
  have few' := (before (ctlPos c) 10 (by rw [card_clearKeys]; omega) few).1
  generalize l.foldl State.freeEntry s = u at source occupied' few' ⊢
  have freed : Carries clearKeys (fun _ => False) 0 u (u.freeEntry i) :=
    carries_freeEntries (l := [i]) (fun j _ => spares_clear (source_mem_clearKeys j) fun _ q => q.elim) u
  have told : waits ((u.freeEntry i).lane (ctlPos c)).board (.sourceState i .initial false) := by
    have changed : (u.source i).changed .initial = true := by
      simp [Source.changed, Source.initial, source, used]
    have controller : decide ((ctlPos c).val < 2) = true := by cases c <;> rfl
    unfold State.freeEntry
    rw [if_neg (source ▸ used), putSource_eq, if_pos changed]
    unfold State.notifyControllers
    rw [lane_notify, if_pos (by rw [controller]; exact occupied')]
    exact waits_queueOn (fun old => by cases old <;> rfl) _ (board_lt few' (by rw [card_clearKeys]; omega))
  have after : Carries clearKeys (· = .sourceState i .initial false) 0 (u.freeEntry i) (m.foldl State.freeEntry (u.freeEntry i)) := by
    refine carries_freeEntries (fun j hj => spares_clear (source_mem_clearKeys j) fun y e => ?_) _
    subst e
    refine ⟨rfl, fun key => ?_⟩
    have same : i = j := Fin.ext (congrArg Prod.snd key)
    exact (List.nodup_cons.mp distinctM).1 (same ▸ hj)
  exact after.waits (freed (ctlPos c) 10 (by rw [card_clearKeys]; omega) few').1 (by rw [card_clearKeys]; omega) rfl told

/-- Up to the sources that it frees, a CLEAR_SCALE's boundary queues only notices of `clearKeys`. -/
theorem carries_wiped {Q : Notice → Prop} (none : ∀ y, ¬ Q y) (s : State) :
    Carries clearKeys Q 0 s s.sourced.cancelRehearsal.wiped := by
  have spared {k : Nat × Nat} (mem : k ∈ clearKeys) : spares clearKeys Q k := spares_clear mem fun y q => (none y q).elim
  have result := spared (k := (0x61, 0)) (by decide)
  have wiped (u : State) : Carries clearKeys Q 0 u u.wiped := carries_boards fun _ => rfl
  exact ((carries_sourced (fun i => spared (source_mem_clearKeys i)) result s).trans₀
    (carries_cancelRehearsal result _)).trans₀ (wiped _)

theorem occupied_wiped (s : State) (q : Pos) : s.sourced.cancelRehearsal.wiped.occupied q = s.occupied q := by
  have wiped (u : State) : u.wiped.occupied q = u.occupied q := rfl
  rw [wiped, (upholds_cancelRehearsal _).occupied, (upholds_sourced s).occupied]

theorem carries_freeSources {Q : Notice → Prop} (none : ∀ y, ¬ Q y) (s : State) : Carries clearKeys Q 0 s s.freeSources :=
  carries_freeEntries (fun i _ => spares_clear (source_mem_clearKeys i) fun y q => (none y q).elim) s

section
variable {q : Pos} (clear : s.scale.clearPending = true) (occupied : s.occupied q = true)
  (few : surplus clearKeys (keysOn (s.lane q).board) ≤ 10)
include clear occupied few

theorem waits_source_of_clear {i : Fin 16} {c : Ctl} (hq : q = ctlPos c) (used : (s.source i).state ≠ .free) :
    waits (s.boundary.lane q).board (.sourceState i .initial false) := by
  have wiped (u : State) : u.wiped.source i = u.source i := rfl
  have source : s.sourced.cancelRehearsal.wiped.source i = s.sourced.source i := by
    rw [wiped, (frame_cancelRehearsal s.sourced).source_eq]
  have used' : (s.sourced.cancelRehearsal.wiped.source i).state ≠ .free := by
    rw [source]
    exact used_sourced used
  have occupied' := (occupied_wiped s q).trans occupied
  have few' := (carries_wiped (Q := fun _ => False) (fun _ => id) s q 10 (by rw [card_clearKeys]; omega) few).1
  have after := carries_afterClear (K := clearKeys) (Q := (· = .sourceState i .initial false)) clear
    (fun p => spares_clear (slot_mem_clearKeys p) fun y e => by subst e; exact ⟨rfl, by simp [Notice.key, Notice.code]⟩)
    (spares_clear (by decide) fun y e => by subst e; exact ⟨rfl, by simp [Notice.key, Notice.code]⟩)
  rw [clearAll_eq] at after
  generalize s.sourced.cancelRehearsal.wiped = u at *
  subst hq
  have told := waits_freeSources used' occupied' few'
  have few'' := (carries_freeSources (Q := fun _ => False) (fun _ => id) u (ctlPos c) 10 (by rw [card_clearKeys]; omega) few').1
  generalize u.freeSources = v at *
  have noted : Carries clearKeys (· = .sourceState i .initial false) 0 v
      ((v.clearBoards Notice.isArmed).notifyAll (.applied v.scale.g v.scale.g 0 0 0 true)) :=
    (carries_clearBoards (fun y e => e ▸ rfl) v).trans₀ (carries_spared (spares_clear (k := (0x52, 0)) (by decide) fun y e => by
      subst e; exact ⟨rfl, by simp [Notice.key, Notice.code]⟩) _ _)
  exact (noted.trans₀ after).waits few'' (by rw [card_clearKeys]; omega) rfl told

theorem waits_applied_of_clear :
    waits (s.boundary.lane q).board (.applied (s.scale.g + 1) (s.scale.g + 1) 0 0 0 true) := by
  have g : s.sourced.cancelRehearsal.wiped.freeSources.scale.g = s.scale.g + 1 := by
    rw [show s.sourced.cancelRehearsal.wiped.freeSources.scale = s.sourced.cancelRehearsal.wiped.scale from
      frame_freeSources _ .scale (by decide), scale_wiped,
      show s.sourced.cancelRehearsal.scale = s.sourced.scale from frame_cancelRehearsal _ .scale (by decide),
      show s.sourced.scale = s.scale from frame_sourced s .scale (by decide)]
    rfl
  have after := carries_afterClear (K := clearKeys) (Q := (· = .applied (s.scale.g + 1) (s.scale.g + 1) 0 0 0 true)) clear
    (fun p => spares_clear (slot_mem_clearKeys p) fun y e => by subst e; exact ⟨rfl, by simp [Notice.key, Notice.code]⟩)
    (spares_clear (by decide) fun y e => by subst e; exact ⟨rfl, by simp [Notice.key, Notice.code]⟩)
  have before : Carries clearKeys (fun _ => False) 0 s s.sourced.cancelRehearsal.wiped.freeSources :=
    (carries_wiped (fun _ => id) s).trans₀ (carries_freeSources (fun _ => id) _)
  have occupied' : s.sourced.cancelRehearsal.wiped.freeSources.occupied q = true := by
    rw [(upholds_freeSources _).occupied, occupied_wiped, occupied]
  rw [clearAll_eq, g] at after
  generalize s.sourced.cancelRehearsal.wiped.freeSources = v at *
  have cleared : Carries clearKeys (fun _ => False) 0 v (v.clearBoards Notice.isArmed) :=
    carries_clearBoards (fun y e => e.elim) v
  have few' := ((before.trans₀ cleared) q 10 (by rw [card_clearKeys]; omega) few).1
  have occupied'' : (v.clearBoards Notice.isArmed).occupied q = true := occupied'
  generalize v.clearBoards Notice.isArmed = u at *
  have noted : Carries clearKeys (fun _ => False) 0 u (u.notifyAll (.applied (s.scale.g + 1) (s.scale.g + 1) 0 0 0 true)) :=
    carries_spared (spares_clear (k := (0x52, 0)) (by decide) fun y e => e.elim) _ _
  have told : waits ((u.notifyAll (.applied (s.scale.g + 1) (s.scale.g + 1) 0 0 0 true)).lane q).board
      (.applied (s.scale.g + 1) (s.scale.g + 1) 0 0 0 true) := by
    unfold State.notifyAll
    rw [lane_notify, occupied'', Bool.true_and, if_pos rfl]
    exact waits_queueOn (fun old => by cases old <;> rfl) _ (board_lt few' (by rw [card_clearKeys]; omega))
  exact after.waits (noted q 10 (by rw [card_clearKeys]; omega) few').1 (by rw [card_clearKeys]; omega) rfl told

end

/-- Where no realignment is due, SECOND_BOUNDARY works the boundary of the state at hand, or of that state once the quiet frames
have begun. -/
theorem secondBoundary_cases (running : s.running = true) (due : ∀ p, s.time.due ≠ .realign p) :
    ∃ u, exec .secondBoundary s = .next u.boundary ∧ (u = s ∨ u = s.quietStart) := by
  have run : exec .secondBoundary s = execSecondBoundary s := rfl
  unfold execSecondBoundary at run
  rw [if_pos running] at run
  cases h : s.time.due with
  | realign p => exact absurd h (due p)
  | second => exact ⟨s, by rw [run, h], .inl rfl⟩
  | nothing => exact ⟨s.quietStart, by rw [run, h], .inr rfl⟩

/-- R52: an entry after a CLEAR_SCALE. -/
theorem source_clearAll (s : State) (i : Fin 16) : s.clearAll.source i = (s.source i).freed := by
  have wiped (u : State) : u.wiped.source i = u.source i := rfl
  rw [clearAll_eq]
  generalize hv : s.cancelRehearsal.wiped.freeSources = v
  have noted : Unchanged [.lanes] v ((v.clearBoards Notice.isArmed).notifyAll (.applied v.scale.g v.scale.g 0 0 0 true)) :=
    (frame_clearBoards _ v).trans (frame_notifyAll _ _)
  rw [noted.source_eq, ← hv, source_freeSources, wiped, (frame_cancelRehearsal s).source_eq]

theorem source_of_clear {i : Fin 16} (clear : s.scale.clearPending = true) (used : (s.source i).state ≠ .free) :
    s.boundary.source i = .initial := by
  have sources : s.boundary.source i = s.rescaled.source i := by
    unfold State.source
    rw [(boundary_of_rescaled s).2]
  rw [sources, rescaled_of_clear clear, source_clearAll]
  exact if_neg (used_sourced used)

/-- Settles O25: after step 1 the device is `Bare`, and the rest of the boundary keeps it so; its notices need no more room than
`clearKeys` takes. -/
theorem boundaryClearsScale : Obligations.BoundaryClearsScale := by
  intro s running due clear
  obtain ⟨u, next, from_⟩ := secondBoundary_cases running due
  have quiet : Carries clearKeys (fun _ => False) 0 s s.quietStart :=
    carries_quietStart (fun p _ => spares_clear (slot_mem_clearKeys p) fun _ q => q.elim)
      (spares_clear (by decide) fun _ q => q.elim)
  have frame := frame_quietStart s
  have same : u.scale.clearPending = true ∧ u.scale.g = s.scale.g ∧ u.sched = s.sched ∧ u.sources = s.sources ∧
      u.zones = s.zones ∧ (∀ q, u.occupied q = s.occupied q) ∧ Carries clearKeys (fun _ => False) 0 s u := by
    rcases from_ with rfl | rfl
    · exact ⟨clear, rfl, rfl, rfl, rfl, fun _ => rfl, Carries.refl u⟩
    · exact ⟨(scale_quietStart s).1.trans clear, (steady_quietStart (P := True) s).g, frame .sched (by decide), frame .sources (by decide),
        frame .zones (by decide), (upholds_quietStart s).occupied, quiet⟩
  obtain ⟨clear', g, sched, sources, zones, occupied, carries⟩ := same
  have few {q : Pos} (few : (s.lane q).board.length ≤ 10) : surplus clearKeys (keysOn (u.lane q).board) ≤ 10 :=
    (carries q 10 (by rw [card_clearKeys]; omega) ((surplus_le_board _).trans few)).1
  have bare := bare_boundary clear'
  have boards (q : Pos) := everyNotice_afterClear clear' (q := q) (fun _ _ => ⟨rfl, fun _ code => by cases code⟩)
    ⟨rfl, fun _ code => by cases code⟩ (everyNotice_clearAll (s := u.sourced) q)
  have g' : u.sourced.scale.g = s.scale.g := by
    rw [show u.sourced.scale = u.scale from frame_sourced u .scale (by decide), g]
  have source (i : Fin 16) : u.source i = s.source i := by unfold State.source; rw [sources]
  refine ⟨u.boundary, next, by rw [bare.scale, g]; rfl, bare.records, bare.listed, bare.refused, by rw [bare.cursor, sched],
    bare.marks, bare.free, bare.phase, by rw [zones_of_clear clear', zones], fun q e he => (boards q e he).1,
    fun q hq => ⟨fun e he code => ?_, fun room => ?_⟩, fun i used => ?_⟩
  · rw [← g']
    exact (boards q e he).2 (by rw [(upholds_sourced u).occupied, occupied, hq]) code
  · rw [← g]
    exact waits_applied_of_clear clear' ((occupied q).trans hq) (few room)
  · rw [← source] at used
    have own := source_of_clear clear' used
    refine ⟨own, fun c hc room => ?_⟩
    rw [own]
    exact waits_source_of_clear clear' ((occupied _).trans hc) (few room) rfl used

end

end Sys2Proof.Machine

namespace Sys2Proof.Machine

set_option Elab.async false

/-! ### The requests of a frame, in the order they are taken (R148) -/

theorem mem_reslot {α : Type} {f : α → Bool} {x : α} {l m : List α} (h : x ∈ reslot f l m) : x ∈ l ∨ x ∈ m := by
  induction m generalizing l with
  | nil => unfold reslot at h; cases h
  | cons y m ih =>
    unfold reslot at h
    split at h
    · split at h
      · rcases List.mem_cons.mp h with rfl | h
        · exact .inl (List.mem_cons_self ..)
        · exact (ih h).imp (List.mem_cons_of_mem _) (List.mem_cons_of_mem _)
      · rcases List.mem_cons.mp h with rfl | h
        · exact .inr (List.mem_cons_self ..)
        · exact .inr ((ih h).elim (fun h => by cases h) (List.mem_cons_of_mem _))
    · rcases List.mem_cons.mp h with rfl | h
      · exact .inr (List.mem_cons_self ..)
      · exact (ih h).imp_right (List.mem_cons_of_mem _)

theorem mem_requestOrder {first : List Pos} {l : List Arrived} {a : Arrived} (h : a ∈ requestOrder first l) : a ∈ l := by
  unfold requestOrder at h
  dsimp only at h
  have lanes {a : Arrived} (h : a ∈ (dedupBy (fun x y => decide (x = y)) (first ++ allPos)).flatMap
      fun p => l.filter fun a => decide (a.1 = p)) : a ∈ l := by
    obtain ⟨p, -, h⟩ := List.mem_flatMap.mp h
    exact (List.mem_filter.mp h).1
  have announces {a : Arrived} (h : a ∈ reslot (fun a : Arrived => a.2.isAnnounce) (l.filter fun a => a.2.isAnnounce)
      ((dedupBy (fun x y => decide (x = y)) (first ++ allPos)).flatMap fun p => l.filter fun a => decide (a.1 = p))) :
      a ∈ l := (mem_reslot h).elim (fun h => (List.mem_filter.mp h).1) lanes
  rcases mem_reslot h with h | h
  · rcases List.mem_append.mp h with h | h <;> exact announces (List.mem_filter.mp h).1
  · exact announces h

theorem mem_dedupBy {α : Type} [DecidableEq α] {x : α} {l : List α} (h : x ∈ l) :
    x ∈ dedupBy (fun x y => decide (x = y)) l := by
  induction l with
  | nil => cases h
  | cons y l ih =>
    unfold dedupBy
    by_cases e : x = y
    · exact e ▸ List.mem_cons_self ..
    · refine List.mem_cons_of_mem _ (List.mem_filter.mpr ⟨ih (List.mem_of_ne_of_mem e h), ?_⟩)
      simpa using Ne.symm e

theorem reslot_singleton {α : Type} (f : α → Bool) (a : α) : reslot f ([a].filter f) [a] = [a] := by
  by_cases h : f a = true <;> simp [reslot, h]

/-- A request that comes alone is taken as it comes. -/
theorem requestOrder_singleton (first : List Pos) (a : Arrived) : requestOrder first [a] = [a] := by
  have lanes : ((dedupBy (fun x y => decide (x = y)) (first ++ allPos)).flatMap
      fun p => [a].filter fun a => decide (a.1 = p)) = [a] := by
    have mem : a.1 ∈ dedupBy (fun x y => decide (x = y)) (first ++ allPos) :=
      mem_dedupBy (List.mem_append_right _ (mem_allPos a.1))
    have distinct : (dedupBy (fun x y => decide (x = y)) (first ++ allPos)).Nodup :=
      (dedupBy_pairwise _ _).imp fun h => by simpa using h
    generalize dedupBy (fun x y => decide (x = y)) (first ++ allPos) = lanes at mem distinct
    obtain ⟨l, m, rfl⟩ := List.append_of_mem mem
    obtain ⟨-, nodup, apart⟩ := List.nodup_append.mp distinct
    have none {l : List Pos} (h : ∀ p ∈ l, p ≠ a.1) : (l.flatMap fun p => [a].filter fun a => decide (a.1 = p)) = [] := by
      refine List.flatMap_eq_nil_iff.mpr fun p hp => ?_
      simpa using (h p hp).symm
    rw [List.flatMap_append, List.flatMap_cons, none fun p hp => apart p hp a.1 (List.mem_cons_self ..),
      none fun p hp e => (List.nodup_cons.mp nodup).1 (e ▸ hp)]
    simp
  have own : [a].filter setsOwn ++ ([a].filter fun a => setsPosition a && !setsOwn a) = [a].filter setsPosition := by
    have position (h : setsOwn a = true) : setsPosition a = true := by
      unfold setsOwn at h
      unfold setsPosition
      split at h <;> simp_all
    by_cases h : setsOwn a = true
    · simp [h, position h]
    · by_cases k : setsPosition a = true <;> simp [h, k]
  unfold requestOrder
  dsimp only
  rw [lanes, reslot_singleton, own, reslot_singleton]

section
variable {s t u : State}

/-- A request whose position has gone EMPTY is lost. -/
theorem takeRequests_lost {leaving : List Pos} {l : List Arrived} (h : ∀ a ∈ l, s.occupied a.1 = false) :
    s.takeRequests leaving l = s := by
  unfold State.takeRequests
  induction l with
  | nil => rfl
  | cons a l ih =>
    rw [List.foldl_cons, h a (List.mem_cons_self ..)]
    exact ih fun b hb => h b (List.mem_cons_of_mem _ hb)

theorem takeRequests_append (leaving : List Pos) (l m : List Arrived) (s : State) :
    s.takeRequests leaving (l ++ m) = (s.takeRequests leaving l).takeRequests leaving m := List.foldl_append

/-! ### The stages of a frame's end (R148) -/

/-- The requests of a frame that are neither MUTE_SOURCEs nor QUERYs. -/
def State.prompts (segs : List (BitVec 48)) (order : FrameOrder) (s : State) : List Arrived :=
  (requestOrder order.lanes (requestsOf (s.arrivals segs))).filter fun a => !(a.2.isMute || a.2.isQuery)

/-- The requests of a frame that are taken after the departures, in their order. -/
def State.lateRequests (segs : List (BitVec 48)) (order : FrameOrder) (s : State) : List Arrived :=
  (if order.requestsFirst then [] else s.prompts segs order) ++
    ((requestOrder order.lanes (requestsOf (s.arrivals segs))).filter (fun a => a.2.isMute) ++
    (requestOrder order.lanes (requestsOf (s.arrivals segs))).filter fun a => a.2.isQuery)

/-- The state in which the Roster takes the frame. -/
def State.readied (segs : List (BitVec 48)) (order : FrameOrder) (s : State) : State :=
  (s.heard segs).takeRequests (s.withEvent segs .departed) (if order.requestsFirst then s.prompts segs order else [])

theorem frameWork_eq (segs : List (BitVec 48)) (order : FrameOrder) (s : State) : ∃ realign,
    s.frameWork segs order = ((((s.readied segs order).frameEvents segs s).takeRequests []
      (s.lateRequests segs order)).settleLoader).setTime
        ((((s.readied segs order).frameEvents segs s).takeRequests [] (s.lateRequests segs order)).settleLoader.time.advanceFrame
          realign) := by
  obtain ⟨first, marks, lanes⟩ := order
  unfold State.frameWork State.readied State.lateRequests State.prompts State.heard
  cases first with
  | true =>
    simp only [if_true, List.nil_append, takeRequests_append]
    exact ⟨_, rfl⟩
  | false =>
    simp only [Bool.false_eq_true, if_false, takeRequests_append]
    exact ⟨_, rfl⟩

end

/-! ### What requests leave of positions and sources -/

/-- A position without its pending settings. -/
def Position.unset (x : Position) : Position := { x with pendingSettings := none }

section
variable {s t u : State}

/-- R117: of the Roster a request touches pending settings alone. -/
theorem unset_perform (leaving : Bool) (p : Pos) (r : Request) (s : State) (q : Pos) :
    ((perform leaving p r s).1.pos q).unset = (s.pos q).unset := by
  have same {but : List Block} {t : State} (h : Unchanged but s t) (hb : Block.roster ∉ but := by decide) :
      (t.pos q).unset = (s.pos q).unset := by
    unfold State.pos
    rw [show t.roster = s.roster from h .roster hb]
  cases r with
  | announce o d k i => exact same (frame_announce leaving p o d k i s)
  | setTime x => exact same (frame_setTime' p x s)
  | setOffset v => exact same (frame_setOffset p v s)
  | confirm id => exact same (frame_confirm p id s)
  | withdraw id => exact same (frame_withdrawRequest p id s)
  | shiftZone z o i => exact same (frame_shiftZone p z o i s)
  | configure k v => exact same (frame_configure p k v s)
  | setPosition r m z =>
    show ((setPosition p r m z s).1.pos q).unset = _
    have set (x : Pos) (y : Option (Delivery × Fin 16)) :
        ((s.setPos x { s.pos x with pendingSettings := y }).pos q).unset = (s.pos q).unset := by
      rw [State.setPos_pos]
      split
      · next e => subst e; rfl
      · rfl
    unfold setPosition
    split
    · dsimp only
      split
      · rfl
      · split
        · split
          · rfl
          · exact set _ _
        · rfl
    · rfl
  | muteSource x o a => exact same (frame_muteSource p x o _ s)
  | clearScale => exact same (frame_clearScale p s)
  | rulesetStart l u n => exact same (frame_rulesetStart p l u n s)
  | rulesetData b => exact same (frame_rulesetData p b s)
  | rulesetFinish => exact same (frame_rulesetFinish p s)
  | rulesetAbandon => exact same (frame_rulesetAbandon p s)
  | rehearse n => exact same (frame_rehearse p n s)
  | rehearsalCancel => exact same (frame_rehearsalCancel p s)
  | query k i => exact same (frame_query k i s)

theorem unset_takeRequests (leaving : List Pos) (l : List Arrived) (s : State) (q : Pos) :
    ((s.takeRequests leaving l).pos q).unset = (s.pos q).unset := by
  unfold State.takeRequests
  induction l generalizing s with
  | nil => rfl
  | cons a l ih =>
    rw [List.foldl_cons, ih]
    split
    · exact unset_perform _ a.1 a.2 s q
    · rfl

/-- Of all requests, ANNOUNCE and MUTE_SOURCE alone touch the Source Table. -/
theorem sources_perform (leaving : Bool) (p : Pos) {r : Request} (s : State) (announce : r.isAnnounce = false)
    (mute : r.isMute = false) : (perform leaving p r s).1.sources = s.sources := by
  cases r with
  | announce o d k i => cases announce
  | setTime x => exact frame_setTime' p x s .sources (by decide)
  | setOffset v => exact frame_setOffset p v s .sources (by decide)
  | confirm id => exact frame_confirm p id s .sources (by decide)
  | withdraw id => exact frame_withdrawRequest p id s .sources (by decide)
  | shiftZone z o i => exact frame_shiftZone p z o i s .sources (by decide)
  | configure k v => exact frame_configure p k v s .sources (by decide)
  | setPosition r m z => exact frame_setPosition p r m z s .sources (by decide)
  | muteSource x o a => cases mute
  | clearScale => exact frame_clearScale p s .sources (by decide)
  | rulesetStart l u n => exact frame_rulesetStart p l u n s .sources (by decide)
  | rulesetData b => exact frame_rulesetData p b s .sources (by decide)
  | rulesetFinish => exact frame_rulesetFinish p s .sources (by decide)
  | rulesetAbandon => exact frame_rulesetAbandon p s .sources (by decide)
  | rehearse n => exact frame_rehearse p n s .sources (by decide)
  | rehearsalCancel => exact frame_rehearsalCancel p s .sources (by decide)
  | query k i => exact frame_query k i s .sources (by decide)

/-- R44: no source of position `p` is in use. -/
def State.sourcesLeft (p : Pos) (s : State) : Prop :=
  ∀ i k, (s.source i).key = some k → k.pos = p → (s.source i).state = .stale ∨ (s.source i).state = .free

theorem sourcesLeft_of_sources {p : Pos} (h : s.sourcesLeft p) (same : t.sources = s.sources) : t.sourcesLeft p := by
  unfold State.sourcesLeft State.source at h ⊢
  rwa [same]

theorem source_prompt (i : Fin 16) (new : Source) (s : State) (j : Fin 16) :
    (s.prompt i new).source j = if i = j then new else s.source j := by
  have put := source_putSource j i new s
  unfold State.prompt
  split
  · rw [(frame_tally _).source_eq (by decide), put]
  · exact put

/-- R36: an ANNOUNCE of another position leaves the sources of `p`, or takes an entry of them over. -/
theorem sourcesLeft_announce {p q : Pos} (o d k : Byte) (i : Option (BitVec 40)) (other : q ≠ p) (h : s.sourcesLeft p) :
    (announce false q o d k i s).1.sourcesLeft p := by
  have taken (x : SourceKey) (v : View) (hx : x.pos ≠ p) : (takeView false x v s).1.sourcesLeft p := by
    rw [takeView_eq (s := s) (Unchanged.refl [.lanes, .moment] s)]
    split
    · exact h
    · next j hj =>
      intro m y hy at_
      have source := source_prompt j (s.heardBy x v j) s m
      have accepted : (accept (s.prompt j (s.heardBy x v j)) (oneByte j.val ++ oneByte (s.heardBy x v j).state.number ++
          oneByte (s.heardBy x v j).run)).1 = s.prompt j (s.heardBy x v j) := rfl
      rw [accepted, source] at hy ⊢
      split
      · next e =>
        rw [if_pos e] at hy
        have key : (s.heardBy x v j).key = some x := by
          unfold State.heardBy
          split
          · next key => exact key
          · rfl
        rw [key] at hy
        cases hy
        exact absurd at_ hx
      · next e =>
        rw [if_neg e] at hy
        exact h m y hy at_
  unfold announce
  split
  · exact h
  · split
    · exact h
    · split
      · exact h
      · split
        · exact h
        · exact taken _ _ other

theorem sourcesLeft_takeRequests {p : Pos} {l : List Arrived} (mute : ∀ a ∈ l, a.2.isMute = false)
    (empty : s.occupied p = false) (h : s.sourcesLeft p) : (s.takeRequests [] l).sourcesLeft p := by
  unfold State.takeRequests
  induction l generalizing s with
  | nil => exact h
  | cons a l ih =>
    rw [List.foldl_cons]
    have rest := fun b hb => mute b (List.mem_cons_of_mem _ hb)
    split
    · next occupied =>
      refine ih rest (((upholds_takeRequest _ a.2 occupied).occupied p).trans empty) ?_
      refine sourcesLeft_of_sources (s := (perform false a.1 a.2 s).1) ?_ rfl
      by_cases announces : a.2.isAnnounce = true
      · cases hr : a.2 with
        | announce o d k i => exact sourcesLeft_announce o d k i (fun e => by rw [e, empty] at occupied; cases occupied) h
        | _ => rw [hr] at announces; cases announces
      · exact sourcesLeft_of_sources h (sources_perform _ _ _ (by simpa using announces) (mute a (List.mem_cons_self ..)))
    · exact ih rest empty h

end

end Sys2Proof.Machine

namespace Sys2Proof.Machine

set_option Elab.async false

/-! ### The agreement tally after a tally (R58) -/

section
variable {s t u : State}

/-- The agreement tally and what it counts are as they were. -/
structure SameVotes (s t : State) : Prop where
  sources : t.sources = s.sources
  settings : t.settings = s.settings
  second : t.time.t = s.time.t
  d : t.scale.d = s.scale.d
  agreement : t.sched.agreement = s.sched.agreement

theorem SameVotes.refl (s : State) : SameVotes s s := ⟨rfl, rfl, rfl, rfl, rfl⟩

theorem SameVotes.trans (h : SameVotes s t) (k : SameVotes t u) : SameVotes s u :=
  ⟨k.sources.trans h.sources, k.settings.trans h.settings, k.second.trans h.second, k.d.trans h.d,
    k.agreement.trans h.agreement⟩

theorem Unchanged.sameVotes {but : List Block} (h : Unchanged but s t) (sources : Block.sources ∉ but := by decide)
    (settings : Block.settings ∉ but := by decide) (time : Block.time ∉ but := by decide)
    (scale : Block.scale ∉ but := by decide) (sched : Block.sched ∉ but := by decide) : SameVotes s t :=
  ⟨h .sources sources, h .settings settings, congrArg TimeBase.t (h .time time), congrArg Scale.d (h .scale scale),
    congrArg Schedule.agreement (h .sched sched)⟩

/-- R58: the agreement tally is that of the Source Table. -/
def State.agreed (s : State) : Prop := s.sched.agreement = s.agrees

theorem agrees_congr (sources : t.sources = s.sources) (settings : t.settings = s.settings)
    (second : t.time.t = s.time.t) (d : t.scale.d = s.scale.d) : t.agrees = s.agrees := by
  have source (i : Fin 16) : t.source i = s.source i := by unfold State.source; rw [sources]
  have value (k : Fin 12) : t.value k = s.value k := by unfold State.value; rw [settings]
  have weight (o : SourceOrigin) : t.originWeight o = s.originWeight o := by cases o <;> exact value _
  unfold State.agrees State.sumOf State.addsTo
  simp only [source, weight, second, d]

theorem SameVotes.agreed (h : SameVotes s t) (k : s.agreed) : t.agreed := by
  unfold State.agreed at k ⊢
  rw [h.agreement, agrees_congr h.sources h.settings h.second h.d, k]

/-! The steps of a tally after its counts leave the agreement tally. -/

theorem agreement_foldl {α : Type} {f : State → α → State} (h : ∀ s x, (f s x).sched.agreement = s.sched.agreement)
    (l : List α) (s : State) : (l.foldl f s).sched.agreement = s.sched.agreement := by
  induction l generalizing s with
  | nil => rfl
  | cons x l ih => rw [List.foldl_cons, ih, h]

theorem agreement_withdraw (r : Record) (why : Reason) (s : State) :
    (s.withdraw r why).sched.agreement = s.sched.agreement := by
  have noted (who : Pos → Bool) (n : Notice) (u : State) : (u.notifyWhere who n).sched = u.sched := rfl
  rw [withdraw_eq, noted]
  unfold State.takeOut
  dsimp only
  split <;> split <;> rfl

theorem agreement_tallyLapse (s : State) : s.tallyLapse.sched.agreement = s.sched.agreement := by
  refine agreement_foldl (fun s r => ?_) _ s
  split
  · exact agreement_withdraw _ _ s
  · split
    · exact agreement_withdraw _ _ s
    · rfl

theorem agreement_placeAll (vs : List Voter) (ns : List Refused) (s : State) (f : Option Refused) :
    (placeAll vs ns (s, f)).1.sched.agreement = s.sched.agreement := by
  induction ns generalizing s f with
  | nil => rfl
  | cons n ns ih =>
    have placed (u : State) : (u.placeNewcomer vs n).sched.agreement = u.sched.agreement := rfl
    unfold placeAll State.tryNewcomer
    by_cases room : s.scaleCount < Config.scaleRoom
    · simp only [if_pos room]
      rw [ih, placed]
    · simp only [if_neg room]
      cases s.yielding fun r => decide (r.vouch < n.vouch) with
      | none => exact ih _ _
      | some r => exact (ih _ _).trans ((placed _).trans (agreement_withdraw _ _ s))

theorem agreement_tallyNewcomers (vs : List Voter) (s : State) :
    (s.tallyNewcomers vs).sched.agreement = s.sched.agreement := by
  have refused (held : Bool) (f : Option Refused) (u : State) : (u.setRefused held f).sched.agreement = u.sched.agreement := by
    unfold State.setRefused
    split
    · split <;> rfl
    · dsimp only
      split
      · split <;> rfl
      · rfl
  exact (refused _ _ _).trans (agreement_placeAll vs _ s none)

theorem agreement_judge (vs : List Voter) (id : Nat) (s : State) : (s.judge vs id).sched.agreement = s.sched.agreement := by
  unfold State.judge
  split
  · rfl
  · split
    · dsimp only
      split <;> rfl
    · rfl

theorem agreement_tallyQualify (vs : List Voter) (s : State) :
    (s.tallyQualify vs).sched.agreement = s.sched.agreement := by
  unfold State.tallyQualify
  exact (agreement_foldl (f := State.noteContest) (fun _ _ => rfl) _ _).trans (agreement_foldl (fun s id => agreement_judge vs id s) _ s)

theorem agreement_tallyOppose (s : State) : s.tallyOppose.sched.agreement = s.sched.agreement := by
  refine agreement_foldl (fun s r => ?_) _ s
  split
  · exact agreement_withdraw _ _ s
  · rfl

theorem agreement_tallyRelease (vs : List Voter) (s : State) :
    (s.tallyRelease vs).sched.agreement = s.sched.agreement := by
  unfold State.tallyRelease
  exact agreement_foldl (fun s id => agreement_judge vs id s) _ _

theorem agreement_tally (s : State) : s.tally.sched.agreement = s.agrees := by
  have purge (vs : List Voter) (u : State) : (u.tallyPurge vs).sched.agreement = u.sched.agreement := rfl
  have counted (vs : List Voter) (u : State) :
      (u.tallyCounts vs).tallyAgreement.sched.agreement = weightOf (Voter.agrees u.scale.d) vs := by
    unfold State.tallyAgreement
    split <;> rfl
  unfold State.tally
  dsimp only
  rw [agreement_tallyRelease, agreement_tallyOppose, agreement_tallyQualify, agreement_tallyNewcomers, purge,
    agreement_tallyLapse, counted, agreement_voters]

/-- R57, R58: after a tally the agreement tally is what the Source Table adds up to. -/
theorem agreed_tally (s : State) : s.tally.agreed := by
  have frame := frame_tally s
  have time : s.tally.time = s.time := frame .time (by decide)
  unfold State.agreed
  rw [agreement_tally, agrees_congr (frame .sources (by decide)) (frame .settings (by decide)) (congrArg TimeBase.t time)
    (steady_tally (P := True) s).d]

/-- Without voters and records a tally queues no notice. -/
theorem lanes_tally_idle (voters : s.voters = []) (records : s.records = []) : s.tally.lanes = s.lanes := by
  have counted : ((s.tallyCounts []).tallyAgreement.tallyLapse.tallyPurge []).records = [] ∧
      ((s.tallyCounts []).tallyAgreement.tallyLapse.tallyPurge []).lanes = s.lanes := by
    have counts : ((s.tallyCounts []).tallyAgreement).records = [] ∧ ((s.tallyCounts []).tallyAgreement).lanes = s.lanes := by
      unfold State.tallyAgreement State.tallyCounts
      dsimp only
      rw [records]
      split <;> exact ⟨rfl, rfl⟩
    generalize (s.tallyCounts []).tallyAgreement = u at counts
    have lapse : u.tallyLapse = u := by unfold State.tallyLapse; rw [counts.1]; rfl
    rw [lapse]
    exact counts
  unfold State.tally
  dsimp only
  rw [voters]
  generalize (s.tallyCounts []).tallyAgreement.tallyLapse.tallyPurge [] = u at counted
  obtain ⟨none, lanes⟩ := counted
  have newcomers : (u.tallyNewcomers []).records = [] ∧ (u.tallyNewcomers []).lanes = u.lanes := by
    have new : u.newcomers [] = [] := rfl
    unfold State.tallyNewcomers
    rw [new]
    unfold placeAll State.setRefused
    dsimp only
    split <;> exact ⟨none, rfl⟩
  generalize u.tallyNewcomers [] = v at newcomers
  obtain ⟨none, lanes'⟩ := newcomers
  have qualify : v.tallyQualify [] = v := by unfold State.tallyQualify; simp [none]
  have oppose : v.tallyOppose = v := by unfold State.tallyOppose; rw [none]; rfl
  have release : (v.tallyRelease []).lanes = v.lanes := by
    unfold State.tallyRelease
    rw [none]
    rfl
  rw [qualify, oppose, release, lanes', lanes]

end

/-! ### A position that has departed, to the end of the frame (R104) -/

section
variable {s t u : State} {p : Pos}

/-- R104: the record of a position that has departed. -/
def Position.vacant (p : Pos) (x : Position) : Prop :=
  x.state = .empty ∧ x.intent = .idle ∧ (p.val < 2 → x.role = .none) ∧ x.held = none ∧ x.ready = 0 ∧ x.lag = 0 ∧
    x.takeCheck = none ∧ x.cursor = none

theorem vacant_of_unset {x y : Position} (h : y.unset = x.unset) (k : x.vacant p) : y.vacant p := by
  have fields {β : Type} (f : Position → β) (hf : ∀ x, f x.unset = f x := by intro x; rfl) : f y = f x := by
    rw [← hf y, ← hf x, h]
  obtain ⟨state, intent, role, held, ready, lag, takeCheck, cursor⟩ := k
  exact ⟨(fields Position.state).trans state, (fields Position.intent).trans intent,
    fun hp => (fields Position.role).trans (role hp), (fields Position.held).trans held,
    (fields Position.ready).trans ready, (fields Position.lag).trans lag, (fields Position.takeCheck).trans takeCheck,
    (fields Position.cursor).trans cursor⟩

/-- R101, R104: the frame in which the qualified intent of a position becomes IDLE. -/
theorem vacant_frameOf {g8 : Byte} {c : CardSegment} {x : Position} (occupied : x.state ≠ .empty)
    (idle : x.nextIntent c = .idle) : (frameOf g8 p c x).1.vacant p ∧ (frameOf g8 p c x).2 = .departed := by
  unfold frameOf
  rw [Position.frame_departs g8 occupied idle]
  dsimp only
  split
  · exact ⟨⟨rfl, rfl, fun _ => rfl, rfl, rfl, rfl, rfl, rfl⟩, rfl⟩
  · next line => exact ⟨⟨rfl, rfl, fun card => absurd card line, rfl, rfl, rfl, rfl, rfl⟩, rfl⟩

/-- An operation on every member of a list leaves an EMPTY position where each does. -/
theorem pos_foldl {α : Type} (l : List α) {f : State → α → State}
    (h : ∀ s x, s.occupied p = false → (f s x).pos p = s.pos p) {s : State} (empty : s.occupied p = false) :
    (l.foldl f s).pos p = s.pos p := by
  induction l generalizing s with
  | nil => rfl
  | cons x l ih =>
    have step := h s x empty
    rw [List.foldl_cons, ih (by unfold State.occupied at empty ⊢; rw [step]; exact empty), step]

theorem Unchanged.pos_eq {but : List Block} (h : Unchanged but s t) (hb : Block.roster ∉ but := by decide) (p : Pos) :
    t.pos p = s.pos p := by
  unfold State.pos
  rw [show t.roster = s.roster from h .roster hb]

theorem pos_setPos_of_ne {q : Pos} (x : Position) (other : q ≠ p) (s : State) : (s.setPos q x).pos p = s.pos p := by
  rw [State.setPos_pos, if_neg other]

/-- R173: the arbiter of one lane leaves the other positions. -/
theorem pos_arbiter {q : Pos} (other : q ≠ p) (s : State) : (s.arbiter q).pos p = s.pos p := by
  unfold State.arbiter
  split
  · split
    · split <;> rfl
    · split
      · dsimp only
        split
        · unfold State.sendNotice
          dsimp only
          split
          · exact pos_setPos_of_ne _ other _
          · rfl
        · rfl
      · rfl
  · rfl

theorem arbiter_empty {q : Pos} (empty : s.occupied q = false) : s.arbiter q = s := by
  unfold State.arbiter State.laneFree
  rw [empty]
  rfl

theorem pos_arbiters (empty : s.occupied p = false) : s.arbiters.pos p = s.pos p := by
  refine pos_foldl allPos (fun s q empty => ?_) empty
  by_cases e : q = p
  · rw [arbiter_empty (e ▸ empty)]
  · exact pos_arbiter e s

theorem pos_rollCalls (empty : s.occupied p = false) : s.rollCalls.pos p = s.pos p := by
  have group (s : State) (k : Nat) (empty : s.occupied p = false) : (s.rollGroup k).pos p = s.pos p := by
    unfold State.rollGroup
    refine pos_foldl allPos (fun s q empty => ?_) (s := { s with scale := _ }) empty
    split
    · next h =>
      have other : q ≠ p := by
        rintro rfl
        simp [State.occupied] at empty
        simp [empty] at h
      have noted (u : State) : (u.noteSlot q).pos p = u.pos p := rfl
      rw [noted, pos_setPos_of_ne _ other]
    · rfl
  unfold State.rollCalls
  split
  · rfl
  · rw [(frame_rollRehearsal _).pos_eq]
    exact pos_foldl _ group empty

theorem pos_resetLanes (empty : s.occupied p = false) : s.resetLanes.pos p = s.pos p := by
  refine pos_foldl allPos (fun s q empty => ?_) empty
  unfold State.resetLane
  split
  · next occupied =>
    have other : q ≠ p := by
      rintro rfl
      rw [empty] at occupied
      cases occupied
    have set (l : Lane) (u : State) : (u.setLane q l).pos p = u.pos p := rfl
    dsimp only
    rw [set]
    split
    · exact pos_setPos_of_ne _ other s
    · rfl
  · rfl

theorem occupied_of_pos (h : t.pos p = s.pos p) : t.occupied p = s.occupied p := by
  unfold State.occupied
  rw [h]

theorem pos_openFrame (empty : s.occupied p = false) : s.openFrame.pos p = s.pos p := by
  have finish (u : State) : u.finish.pos p = u.pos p := (frame_finish u).pos_eq (by decide) p
  have latch (u : State) : u.latch.pos p = u.pos p := (frame_latch u).pos_eq (by decide) p
  have moment (u : State) : u.nextMoment.pos p = u.pos p := rfl
  unfold State.openFrame
  split
  · split
    · have before : s.finish.latch.nextMoment.pos p = s.pos p := by rw [moment, latch, finish]
      have empty' := (occupied_of_pos before).trans empty
      have called := pos_rollCalls empty'
      unfold State.openQuiet State.quietStart
      rw [finish, pos_resetLanes ((occupied_of_pos called).trans empty'), called, before]
    · rw [latch, finish, pos_arbiters ((occupied_of_pos (finish s)).trans empty), finish]
  · exact finish s

end

end Sys2Proof.Machine

namespace Sys2Proof.Machine

set_option Elab.async false

/-! ### The stages of a frame's end (R44, R50, R104) -/

section
variable {s t v before : State} {segs : List (BitVec 48)} {p : Pos}

theorem frame_parted (segs : List (BitVec 48)) (v before : State) :
    Unchanged [.sources, .sched, .scale, .lanes, .loader] (v.seated segs) (v.parted segs before) := by
  have left : Unchanged [.sources, .sched, .lanes, .loader] (v.seated segs) ((v.gone segs).foldl State.leave (v.seated segs)) :=
    Unchanged.foldl _ frame_leave _ _
  unfold State.parted
  rw [departures_eq]
  exact Unchanged.ite _ (left.mono.trans (frame_tally _).mono) left.mono

theorem frame_roster (segs : List (BitVec 48)) (v before : State) :
    Unchanged [.sources, .sched, .scale, .lanes, .loader] (v.seated segs) (v.frameRoster segs before) := by
  rw [frameRoster_eq]
  exact (frame_parted segs v before).trans (Unchanged.foldl _ (fun s p => (frame_noteSlot p s).mono) _ _)

/-- R139, R148: after the Roster come the marks, the lead, the latencies and the time-out. -/
theorem frame_events (segs : List (BitVec 48)) (v before : State) :
    Unchanged [.time, .lanes, .rehearsal, .loader] (v.frameRoster segs before) (v.frameEvents segs before) := by
  unfold State.frameEvents
  generalize v.frameRoster segs before = u
  refine Unchanged.trans ?_ (frame_expireLoader _).mono
  refine Unchanged.trans ?_ (frame_frameRehearsal _).mono
  exact Unchanged.trans (frame_setTime _ u).mono (frame_arbitrate _).mono

theorem pos_frameEvents (segs : List (BitVec 48)) (v before : State) (p : Pos) :
    (v.frameEvents segs before).pos p = (v.frameAt segs p).1 := by
  rw [(frame_events segs v before).pos_eq, (frame_roster segs v before).pos_eq, pos_seated]

theorem second_frameEvents (segs : List (BitVec 48)) (v before : State) :
    (v.frameEvents segs before).time.t = (v.frameRoster segs before).time.t := by
  have arbitrate (u : State) : u.arbitrate.time.t = u.time.t := by
    unfold State.arbitrate
    dsimp only
    split <;> rfl
  have marks (u : State) : (u.frameMarks segs before).time.t = u.time.t := rfl
  unfold State.frameEvents
  rw [congrArg TimeBase.t (frame_expireLoader _ .time (by decide)),
    congrArg TimeBase.t (frame_frameRehearsal _ .time (by decide)), arbitrate, marks]

theorem sameVotes_frameEvents (segs : List (BitVec 48)) (v before : State) :
    SameVotes (v.frameRoster segs before) (v.frameEvents segs before) := by
  have frame := frame_events segs v before
  exact ⟨frame .sources (by decide), frame .settings (by decide), second_frameEvents segs v before,
    congrArg Scale.d (frame .scale (by decide)), congrArg Schedule.agreement (frame .sched (by decide))⟩

theorem sameVotes_openFrame (s : State) : SameVotes s s.openFrame := by
  have frame := frame_openFrame s
  have steady : Steady True s s.openFrame := by
    unfold State.openFrame
    split
    · split
      · exact ((steady_finish s).trans (frame_latch _).steady).trans (steady_quietStart _)
      · exact (((steady_finish s).trans (frame_arbiters _).steady).trans (steady_finish _)).trans (frame_latch _).steady
    · exact steady_finish s
  exact ⟨frame .sources (by decide), frame .settings (by decide), congrArg TimeBase.t (frame .time (by decide)), steady.d,
    congrArg Schedule.agreement (frame .sched (by decide))⟩

theorem sameVotes_advance (realign : Bool) (s : State) : SameVotes s (s.settleLoader.setTime (s.settleLoader.time.advanceFrame realign)) := by
  refine ⟨rfl, rfl, ?_, rfl, rfl⟩
  show (s.settleLoader.time.advanceFrame realign).t = s.time.t
  unfold TimeBase.advanceFrame
  split
  · rfl
  · split <;> rfl

/-! ### The sources of the positions that depart (R44) -/

theorem key_departed (p : Pos) (e : Source) : (e.departed p).key = e.key := by
  unfold Source.departed
  split <;> rfl

theorem departed_of_ne {e : Source} {k : SourceKey} (key : e.key = some k) (other : k.pos ≠ p) : e.departed p = e := by
  simp [Source.departed, key, other]

theorem departed_twice (e : Source) : (e.departed p).departed p = e.departed p := by
  unfold Source.departed
  split
  · split <;> rfl
  · rfl

theorem key_foldLeave (gone : List Pos) (s : State) (i : Fin 16) :
    ((gone.foldl State.leave s).source i).key = (s.source i).key := by
  induction gone generalizing s with
  | nil => rfl
  | cons q gone ih => rw [List.foldl_cons, ih, source_leave, key_departed]

theorem source_foldLeave {gone : List Pos} {i : Fin 16} {k : SourceKey} (key : (s.source i).key = some k) :
    (gone.foldl State.leave s).source i = if k.pos ∈ gone then (s.source i).departed k.pos else s.source i := by
  induction gone generalizing s with
  | nil => rfl
  | cons q gone ih =>
    have key' : ((s.leave q).source i).key = some k := by rw [source_leave, key_departed, key]
    rw [List.foldl_cons, ih key', source_leave]
    by_cases e : k.pos = q
    · subst e
      simp [departed_twice]
    · simp [departed_of_ne key (fun h => e h), e]

theorem source_frameEvents (segs : List (BitVec 48)) (v before : State) (i : Fin 16) :
    (v.frameEvents segs before).source i = ((v.gone segs).foldl State.leave (v.seated segs)).source i := by
  have parted : (v.parted segs before).source i = ((v.gone segs).foldl State.leave (v.seated segs)).source i := by
    unfold State.parted
    rw [departures_eq]
    split
    · exact (frame_tally _).source_eq (by decide) i
    · rfl
  have noted : Unchanged [.lanes] (v.parted segs before) (v.frameRoster segs before) :=
    Unchanged.foldl _ (fun s p => frame_noteSlot p s) _ _
  rw [(frame_events segs v before).source_eq, noted.source_eq, parted]

/-- R44: the entry of a position that departs, right after. -/
theorem source_frameEvents_gone {i : Fin 16} {k : SourceKey} (key : (v.source i).key = some k) (gone : k.pos ∈ v.gone segs) :
    (v.frameEvents segs before).source i = (v.source i).departed k.pos := by
  have seated : (v.seated segs).source i = v.source i := rfl
  rw [source_frameEvents, source_foldLeave (seated ▸ key), if_pos gone, seated]

theorem key_frameEvents (i : Fin 16) : ((v.frameEvents segs before).source i).key = (v.source i).key := by
  rw [source_frameEvents, key_foldLeave]
  rfl

theorem sourcesLeft_frameEvents (gone : p ∈ v.gone segs) : (v.frameEvents segs before).sourcesLeft p := by
  intro i k key at_
  rw [key_frameEvents] at key
  subst at_
  rw [source_frameEvents_gone key gone]
  unfold Source.departed
  split
  · exact .inl rfl
  · next h => exact .inr (by simpa [key] using h)

/-! ### The departure of a position -/

/-- R50: where the departures prompt the Change Schedule, the agreement tally follows them. -/
theorem agreed_frameEvents (prompted : v.departuresPrompt segs (v.gone segs) before = true) :
    (v.frameEvents segs before).agreed := by
  have parted : (v.parted segs before).agreed := by
    unfold State.parted
    rw [departures_eq, if_pos prompted]
    exact agreed_tally _
  have noted : Unchanged [.lanes] (v.parted segs before) (v.frameRoster segs before) :=
    Unchanged.foldl _ (fun s p => frame_noteSlot p s) _ _
  exact (noted.sameVotes.trans (sameVotes_frameEvents segs v before)).agreed parted

theorem left_frameEvents (gone : p ∈ v.gone segs) (vacant : ((v.frameAt segs p).1).vacant p) :
    (v.frameEvents segs before).clearAt p ∧ (v.frameEvents segs before).holdsLead p = false := by
  have state : (v.frameAt segs p).1.state = .empty := vacant.1
  have seated : (v.seated segs).occupied p = false := by
    unfold State.occupied
    rw [pos_seated, state]
    rfl
  have left : Upholds (v.seated segs) ((v.gone segs).foldl State.leave (v.seated segs)) := Upholds.foldl _ upholds_leave _ _
  have clear := clearAt_foldLeave (gone := v.gone segs) seated (.inl gone)
  have parted : (v.parted segs before).clearAt p := by
    unfold State.parted
    rw [departures_eq]
    split
    · exact (upholds_tally _).clear p ((left.occupied p).trans seated) clear
    · exact clear
  have empty := ((upholds_parted segs v before).occupied p).trans seated
  have noted := upholds_noteSlots (v.tells segs) (v.parted segs before)
  have marked := upholds_frameMarks segs (v.frameRoster segs before) before
  have empty' : ((v.frameRoster segs before).frameMarks segs before).occupied p = false :=
    (marked.occupied p).trans ((noted.occupied p).trans empty)
  have clear' : ((v.frameRoster segs before).frameMarks segs before).clearAt p :=
    marked.clear p ((noted.occupied p).trans empty) (noted.clear p empty parted)
  have ended := (upholds_frameRehearsal ((v.frameRoster segs before).frameMarks segs before).arbitrate).trans
    (upholds_expireLoader _)
  have empty'' : ((v.frameRoster segs before).frameMarks segs before).arbitrate.occupied p = false :=
    (occupied_of_roster (arbitrate_effect _).2 p).trans empty'
  refine ⟨ended.clear p empty'' (clearAt_arbitrate _ empty' clear'), ?_⟩
  have lead := holdsLead_arbitrate _ empty'
  unfold State.holdsLead at lead ⊢
  rw [show (v.frameEvents segs before).time.holder = _ from ended.holder]
  exact lead

/-! ### The frame's end as a whole -/

theorem frame_heard (segs : List (BitVec 48)) (s : State) : Unchanged [.lanes, .loader] s (s.heard segs) :=
  ((frame_setLanes _ s).mono.trans (frame_answerForms _ _).mono).trans (frame_tickLoader _).mono

/-- The state after the Roster, the lead and the timers of a frame have been worked. -/
def State.rostered (segs : List (BitVec 48)) (order : FrameOrder) (s : State) : State :=
  (s.readied segs order).frameEvents segs s

theorem frameEnd_eq (segs : List (BitVec 48)) (order : FrameOrder) (running : s.running = true) (due : s.time.due = .nothing) :
    ∃ realign u, u = ((s.nextMoment.rostered segs order).takeRequests [] (s.nextMoment.lateRequests segs order)).settleLoader ∧
      exec (.frameEnd segs order) s = .next (u.setTime (u.time.advanceFrame realign)).openFrame := by
  have settle : s.settle = s := by unfold State.settle; rw [due]
  obtain ⟨realign, work⟩ := frameWork_eq segs order s.nextMoment
  refine ⟨realign, _, rfl, ?_⟩
  have run : exec (.frameEnd segs order) s = .next (frameEnd segs order s) := rfl
  rw [run, frameEnd, if_pos running, settle, work]
  rfl

variable {order : FrameOrder}

/-- R104: a position of which the qualified intent becomes IDLE departs, whatever the frame's requests have done. -/
theorem departs_readied (occupied : s.occupied p = true) (idle : (s.pos p).nextIntent (segmentOf segs p) = .idle) :
    ((s.readied segs order).frameAt segs p).1.vacant p ∧ p ∈ (s.readied segs order).gone segs := by
  have unset : ((s.readied segs order).pos p).unset = (s.pos p).unset := by
    unfold State.readied
    rw [unset_takeRequests, (frame_heard segs s).pos_eq]
  have fields {β : Type} (f : Position → β) (hf : ∀ x, f x.unset = f x := by intro x; rfl) :
      f ((s.readied segs order).pos p) = f (s.pos p) := by
    rw [← hf, ← hf (s.pos p), unset]
  have state : ((s.readied segs order).pos p).state ≠ .empty := by
    rw [fields Position.state]
    simpa [State.occupied] using occupied
  have next : ((s.readied segs order).pos p).nextIntent (segmentOf segs p) = .idle :=
    (fields (Position.nextIntent (segmentOf segs p))).trans idle
  obtain ⟨vacant, event⟩ := vacant_frameOf (p := p) (g8 := (s.readied segs order).g8) state next
  exact ⟨vacant, (mem_gone segs _ p).mpr event⟩

section
variable {w : State} {l : List Arrived} {realign : Bool}

/-- What follows the Roster leaves a position that has departed, and its lane, as they are. -/
theorem left_of_rostered (u : State) (hu : u = (w.takeRequests [] l).settleLoader) (empty : w.occupied p = false)
    (clear : w.clearAt p) (vacant : (w.pos p).vacant p) (lead : w.holdsLead p = false) :
    ((u.setTime (u.time.advanceFrame realign)).openFrame.pos p).vacant p ∧
    (u.setTime (u.time.advanceFrame realign)).openFrame.clearAt p ∧
    (u.setTime (u.time.advanceFrame realign)).openFrame.holdsLead p = false := by
  have asked : Upholds w u := by
    rw [hu]
    exact (upholds_takeRequests [] l w).trans (upholds_settleLoader _)
  have advanced := asked.trans (upholds_advanceFrame realign u)
  have all := advanced.trans (upholds_openFrame _)
  have pos : (u.pos p).unset = (w.pos p).unset := by
    rw [hu, (frame_settleLoader _).pos_eq, unset_takeRequests]
  have same : (u.setTime (u.time.advanceFrame realign)).openFrame.pos p = u.pos p :=
    pos_openFrame ((advanced.occupied p).trans empty)
  refine ⟨same ▸ vacant_of_unset pos vacant, all.clear p empty clear, ?_⟩
  unfold State.holdsLead at lead ⊢
  rw [all.holder]
  exact lead

theorem sourcesLeft_of_rostered (u : State) (hu : u = (w.takeRequests [] l).settleLoader) (empty : w.occupied p = false)
    (mute : ∀ a ∈ l, a.2.isMute = false) (left : w.sourcesLeft p) :
    (u.setTime (u.time.advanceFrame realign)).openFrame.sourcesLeft p := by
  have asked : u.sourcesLeft p := by
    rw [hu]
    exact sourcesLeft_of_sources (sourcesLeft_takeRequests mute empty left) rfl
  exact sourcesLeft_of_sources asked ((frame_openFrame _ .sources (by decide)).trans rfl)

end

/-! ### The tally of the departures (R45, R50) -/

theorem sameVotes_opened {w : State} (realign : Bool) :
    SameVotes w (w.settleLoader.setTime (w.settleLoader.time.advanceFrame realign)).openFrame :=
  (sameVotes_advance realign w).trans (sameVotes_openFrame _)

/-- R50: an entry of the position was in use as the frame began. -/
theorem agreed_of_holding {i : Fin 16} {k : SourceKey} (gone : p ∈ (s.readied segs order).gone segs)
    (key : (s.source i).key = some k) (at_ : k.pos = p) (used : (s.source i).state ≠ .free) (notStale : (s.source i).state ≠ .stale) :
    (s.rostered segs order).agreed := by
  refine agreed_frameEvents ?_
  have holds : s.holdsSources ((s.readied segs order).gone segs) = true := by
    unfold State.holdsSources
    refine List.any_eq_true.mpr ⟨i, mem_allEntries i, ?_⟩
    simp [key, at_, gone, used, notStale]
  unfold State.departuresPrompt
  rw [holds]
  rfl

/-- R35: an ANNOUNCE that changes the Source Table is ACCEPTED. -/
theorem announce_accepts (leaving : Bool) (o d k : Byte) (i : Option (BitVec 40)) (s : State) :
    (announce leaving p o d k i s).1.sources = s.sources ∨ (announce leaving p o d k i s).2.code = .accepted := by
  have taken (x : SourceKey) (v : View) :
      (takeView leaving x v s).1.sources = s.sources ∨ (takeView leaving x v s).2.code = .accepted := by
    unfold takeView
    split
    · exact .inl rfl
    · exact .inr rfl
  unfold announce
  split
  · exact .inl rfl
  · split
    · exact .inl rfl
    · split
      · exact .inl rfl
      · split
        · exact .inl rfl
        · exact taken _ _

/-- R45: a key that the Source Table has gained in a frame is that of an ANNOUNCE taken before the departure. -/
theorem announced_of_gained {r : Request} {i : Fin 16} {k : SourceKey} (alone : requestsOf (s.arrivals segs) = [(p, r)])
    (key : ((s.readied segs order).source i).key = some k) (gained : (s.source i).key ≠ some k) :
    order.requestsFirst = true ∧ (s.readied segs order).hasAnnounced segs s p = true := by
  have heard : (s.heard segs).sources = s.sources := frame_heard segs s .sources (by decide)
  have lacks {u : State} (h : u.sources = s.sources) : (u.source i).key ≠ some k := by
    unfold State.source at gained ⊢
    rwa [h]
  have prompts : s.prompts segs order = if r.isMute || r.isQuery then [] else [(p, r)] := by
    unfold State.prompts
    rw [alone, requestOrder_singleton, List.filter_cons, List.filter_nil]
    dsimp only
    cases r.isMute || r.isQuery <;> rfl
  unfold State.readied at key ⊢
  rw [prompts] at key ⊢
  cases first : order.requestsFirst with
  | false =>
    rw [first] at key
    exact absurd key (lacks heard)
  | true =>
    rw [first, if_pos rfl] at key
    refine ⟨rfl, ?_⟩
    rw [if_pos rfl]
    split
    · next h =>
      rw [if_pos h] at key
      exact absurd key (lacks heard)
    · next h =>
      rw [if_neg h] at key
      unfold State.takeRequests at key ⊢
      rw [List.foldl_cons, List.foldl_nil] at key ⊢
      dsimp only at key ⊢
      split
      · next occupied =>
        rw [if_pos occupied] at key
        generalize (s.withEvent segs .departed).contains p = leaving at key ⊢
        have performed : ((s.heard segs).takeRequest leaving p r).sources = (perform leaving p r (s.heard segs)).1.sources := rfl
        have changed : (perform leaving p r (s.heard segs)).1.sources ≠ (s.heard segs).sources := fun e =>
          lacks (performed.trans (e.trans heard)) key
        have announces : r.isAnnounce = true := by
          by_contra other
          refine changed (sources_perform leaving p _ (by simpa using other) ?_)
          cases hm : r.isMute
          · rfl
          · simp [hm] at h
        have accepted : (perform leaving p r (s.heard segs)).2.code = .accepted := by
          cases hr : r with
          | announce o d x y =>
            rw [hr] at changed
            exact (announce_accepts leaving o d x y (s.heard segs)).resolve_left changed
          | _ => rw [hr] at announces; cases announces
        have owed : (((s.heard segs).takeRequest leaving p r).lane p).owed =
            some (r.response (perform leaving p r (s.heard segs)).2) := by
          unfold State.takeRequest
          rw [lane_owe, if_pos rfl]
          rfl
        unfold State.hasAnnounced
        rw [alone, owed]
        simp [announces, Request.response, accepted]
      · next empty =>
        rw [if_neg empty] at key
        exact absurd key (lacks heard)

end

end Sys2Proof.Machine

namespace Sys2Proof.Machine

set_option Elab.async false

/-! ### Notices on the way out (R174) -/

section
variable {K : Finset (Nat × Nat)} {s t u : State} {q : Pos} {x : Notice}

theorem mem_dropFirst_of_ne {e y : BoardEntry} {l : List BoardEntry} (h : y ∈ l) (other : y ≠ e) :
    y ∈ dropFirst (fun z => decide (z = e)) l := by
  induction l with
  | nil => cases h
  | cons z l ih =>
    unfold dropFirst
    rcases List.mem_cons.mp h with rfl | h
    · simp [other]
    · split
      · exact h
      · exact List.mem_cons_of_mem _ (ih h)

theorem dropFirst_sublist {α : Type} (f : α → Bool) (l : List α) : (dropFirst f l).Sublist l := by
  induction l with
  | nil => exact List.Sublist.slnil
  | cons x l ih =>
    unfold dropFirst
    split
    · exact List.sublist_cons_self x l
    · exact ih.cons_cons x

theorem lane_sendNotice (p : Pos) (e : BoardEntry) (b : List Byte) (s : State) : (s.sendNotice p e b).lane p =
    { s.lane p with board := dropFirst (fun x => decide (x = e)) (s.lane p).board }.send b
      (if e.notice.isOffer then .offer else .notice) := by
  have set (l : Lane) : (s.setLane p l).lane p = l := by rw [State.setLane_lane, if_pos rfl]
  unfold State.sendNotice
  dsimp only
  split
  · exact set _
  · exact set _

theorem lane_arbiter_of_ne {p : Pos} (other : p ≠ q) (s : State) : (s.arbiter p).lane q = s.lane q := by
  have set (l : Lane) (s : State) : (s.setLane p l).lane q = s.lane q := by rw [State.setLane_lane, if_neg other]
  unfold State.arbiter
  split
  · split
    · split
      · exact set _ s
      · rfl
    · split
      · dsimp only
        split
        · unfold State.sendNotice
          dsimp only
          split
          · exact set _ s
          · exact set _ s
        · rfl
      · rfl
  · rfl

/-- R173: a lane's arbiter sends the notice it takes from the board. -/
theorem told_arbiter (p : Pos) (plain : x.isOffer = false) (told : s.told q x) : (s.arbiter p).told q x := by
  by_cases e : p = q
  · subst e
    by_cases free : s.laneFree p
    · have idle : (s.lane p).sending = none := by
        simp only [State.laneFree, Bool.and_eq_true, Option.isNone_iff_eq_none] at free
        exact free.1.2
      have waiting : waits (s.lane p).board x := by
        rcases told with h | ⟨y, hy, -⟩
        · exact h
        · rw [idle] at hy
          cases hy
      unfold State.arbiter
      rw [if_pos free]
      split
      · split
        · refine .inl ?_
          rw [State.setLane_lane, if_pos rfl]
          exact waiting
        · exact .inl waiting
      · split
        · next y hy =>
          dsimp only
          split
          · unfold State.told
            rw [lane_sendNotice]
            obtain ⟨z, hz, notice⟩ := waiting
            by_cases same : z = y
            · subst same
              subst notice
              refine .inr ⟨_, rfl, ?_⟩
              show s.noticeParcel p z.notice = _
              unfold State.noticeParcel
              rw [plain]
              rfl
            · exact .inl ⟨z, mem_dropFirst_of_ne hz same, notice⟩
          · exact .inl waiting
        · exact .inl waiting
    · unfold State.arbiter
      rw [if_neg free]
      exact told
  · unfold State.told
    rw [lane_arbiter_of_ne e]
    exact told

theorem board_arbiter (p : Pos) (s : State) : ((s.arbiter p).lane q).board.Sublist (s.lane q).board := by
  by_cases e : p = q
  · subst e
    unfold State.arbiter
    split
    · split
      · split
        · rw [State.setLane_lane, if_pos rfl]
          exact List.Sublist.refl _
        · exact List.Sublist.refl _
      · split
        · dsimp only
          split
          · rw [lane_sendNotice]
            exact dropFirst_sublist _ _
          · exact List.Sublist.refl _
        · exact List.Sublist.refl _
    · exact List.Sublist.refl _
  · rw [lane_arbiter_of_ne e]

theorem told_arbiters {m : Nat} (plain : x.isOffer = false) (told : s.told q x)
    (few : surplus K (keysOn (s.lane q).board) ≤ m) :
    s.arbiters.told q x ∧ surplus K (keysOn (s.arbiters.lane q).board) ≤ m := by
  unfold State.arbiters
  generalize allPos = l
  induction l generalizing s with
  | nil => exact ⟨told, few⟩
  | cons p l ih =>
    exact ih (told_arbiter p plain told) ((surplus_sublist ((board_arbiter p s).map _)).trans few)

theorem sending_finish (s : State) (q : Pos) : (s.finish.lane q).sending = (s.lane q).sending := by
  have lane : s.finish.lane q = s.refreshOffers.lane q := rfl
  rw [lane, lane_refreshOffers]
  split
  · split <;> rfl
  · rfl

theorem told_finish {m : Nat} (offer : spares K (· = x) (0x54, 0)) (room : m + K.card ≤ 48) (told : s.told q x)
    (few : surplus K (keysOn (s.lane q).board) ≤ m) : s.finish.told q x := by
  rcases told with h | ⟨y, hy, bytes⟩
  · exact .inl ((carries_finish (K := K) (n := 0) (.inl offer.1) offer.2 s).waits few (by omega) rfl h)
  · exact .inr ⟨y, (sending_finish s q).trans hy, bytes⟩

/-- R113, R173: the notice waits, or its transfer begins, as the next frame begins. -/
theorem told_openFrame {m : Nat} (plain : x.isOffer = false) (slots : ∀ p : Pos, s.occupied p = true → spares K (· = x) (0x58, p.val))
    (offer : spares K (· = x) (0x54, 0)) (room : m + K.card ≤ 48) (waiting : waits (s.lane q).board x)
    (few : surplus K (keysOn (s.lane q).board) ≤ m) : s.openFrame.told q x := by
  have finish := carries_finish (K := K) (n := 0) (.inl offer.1) offer.2 s
  have few' := (finish q m (by omega) few).1
  have waiting' := finish.waits few (by omega) rfl waiting
  unfold State.openFrame
  split
  · split
    · have same (p : Pos) : s.finish.latch.occupied p = s.occupied p := (upholds_finish s).occupied p
      have quiet := (frame_latch s.finish).carries.trans₀ (carries_quietStart (fun p h => slots p (same p ▸ h)) offer)
      exact .inl (quiet.waits few' (by omega) rfl waiting')
    · obtain ⟨told, few''⟩ := told_arbiters (K := K) plain (.inl waiting') few'
      have last (w : State) : w.latch.told q x = w.told q x := rfl
      rw [last]
      exact told_finish offer room told few''
  · exact .inl waiting'

/-! ### One notice of a list of operations -/

/-- Of the operations on the members of a list, the one on `a` queues notice `x`, and the others cost no room. Before it `P` holds,
all the while `R`. -/
theorem waits_foldl {α : Type} [DecidableEq α] {f : State → α → State} {P R : State → Prop} {l : List α} {a : α} {m : Nat}
    (mem : a ∈ l) (distinct : l.Nodup)
    (quiet : ∀ s, ∀ b ∈ l, Grows K (fun _ => False) 0 (s.lane q).board ((f s b).lane q).board)
    (keeps : ∀ s, ∀ b ∈ l, b ≠ a → R s → Grows K (· = x) 0 (s.lane q).board ((f s b).lane q).board)
    (before : ∀ s, ∀ b ∈ l, b ≠ a → P s → P (f s b)) (always : ∀ s, ∀ b ∈ l, R s → R (f s b))
    (queues : ∀ s, P s → surplus K (keysOn (s.lane q).board) ≤ m → waits ((f s a).lane q).board x)
    (room : m + K.card ≤ 48) (startP : P s) (startR : R s) (few : surplus K (keysOn (s.lane q).board) ≤ m) :
    waits ((l.foldl f s).lane q).board x := by
  induction l generalizing s with
  | nil => cases mem
  | cons b l ih =>
    obtain ⟨new, distinct⟩ := List.nodup_cons.mp distinct
    have first : b ∈ b :: l := List.mem_cons_self ..
    have few' := (quiet s b first m (by omega) few).1
    have startR' := always s b first startR
    rw [List.foldl_cons]
    by_cases e : b = a
    · subst e
      have rest := grows_foldl (Q := (· = x)) (R := R) (fun s c hc => keeps s c (List.mem_cons_of_mem _ hc)
        fun e => new (e ▸ hc)) (fun s c hc => always s c (List.mem_cons_of_mem _ hc)) startR'
      exact (rest m (by omega) few').2 x rfl (queues s startP few)
    · exact ih (List.mem_of_ne_of_mem (Ne.symm e) mem) distinct
        (fun s c hc => quiet s c (List.mem_cons_of_mem _ hc)) (fun s c hc => keeps s c (List.mem_cons_of_mem _ hc))
        (fun s c hc => before s c (List.mem_cons_of_mem _ hc)) (fun s c hc => always s c (List.mem_cons_of_mem _ hc))
        (before s b first e startP) startR' few'

/-! ### The notices of a frame's end (R51, R58, R116) -/

/-- R44: entry `i` after the departure of position `p`. -/
def State.departEntry (p : Pos) (s : State) (i : Fin 16) : State :=
  match (s.source i).key with
  | some k => if k.pos = p && (s.source i).state ≠ .free then s.putSource i { s.source i with state := .stale } else s
  | none => s

theorem departSources_eq (p : Pos) (s : State) : s.departSources p = allEntries.foldl (State.departEntry p) s := rfl

theorem carries_departEntry {Q : Notice → Prop} {i : Fin 16} (h : spares K Q (0x59, i.val)) (p : Pos) (s : State) :
    Carries K Q 0 s (s.departEntry p i) := by
  unfold State.departEntry
  split
  · exact Carries.ite (carries_putSource h _ s) (Carries.refl s)
  · exact Carries.refl s

theorem lane_departLoader (p : Pos) (s : State) : (s.departLoader p).lane q = s.lane q := by
  unfold State.lane
  rw [show (s.departLoader p).lanes = s.lanes from frame_departLoader p s .lanes (by decide)]

theorem source_departEntry (p : Pos) (s : State) (i j : Fin 16) (other : j ≠ i) : (s.departEntry p j).source i = s.source i := by
  unfold State.departEntry
  split
  · split
    · rw [source_putSource, if_neg other]
    · rfl
  · rfl

theorem lane_clearLane_of_ne {p : Pos} (other : p ≠ q) (s : State) : (s.clearLane p).lane q = s.lane q := by
  unfold State.clearLane
  rw [State.setLane_lane, if_neg other]

theorem grows_leave {Q : Notice → Prop} {p : Pos} (sources : ∀ i : Fin 16, spares K Q (0x59, i.val)) (other : p ≠ q) (s : State) :
    Grows K Q 0 (s.lane q).board ((s.leave p).lane q).board := by
  unfold State.leave
  rw [lane_departLoader, departSources_eq, ← lane_clearLane_of_ne other s]
  exact Carries.foldl (fun s i => carries_departEntry (sources i) p s) _ _ q

/-- The departure of another position leaves the notice of an entry that is not its own. -/
theorem grows_leave_other {i : Fin 16} {e : Source} {b : Bool} {k : SourceKey} {p : Pos} (hx : x = .sourceState i e b)
    (sources : ∀ j : Fin 16, ((0x59 : Nat), j.val) ∈ K) (other : p ≠ q) (key : (s.source i).key = some k) (hk : k.pos ≠ p) :
    Grows K (· = x) 0 (s.lane q).board ((s.leave p).lane q).board := by
  unfold State.leave
  rw [lane_departLoader, departSources_eq, ← lane_clearLane_of_ne other s]
  have key' : ((s.clearLane p).source i).key = some k := key
  generalize s.clearLane p = u at key'
  refine grows_foldl (R := fun u => (u.source i).key = some k) (fun u j _ key => ?_) (fun u j _ key => ?_) key'
  · by_cases e : j = i
    · subst e
      have same : u.departEntry p j = u := by
        unfold State.departEntry
        rw [key]
        simp [hk]
      rw [same]
      exact Grows.refl _
    · refine carries_departEntry ⟨sources j, fun y hy => ?_⟩ p u q
      subst hy
      subst hx
      exact ⟨rfl, fun h => e (Fin.ext (congrArg Prod.snd h).symm)⟩
  · by_cases e : j = i
    · subst e
      unfold State.departEntry
      rw [key]
      simp [hk, key]
    · rw [source_departEntry p u i j e, key]

section
variable {c : Ctl} {i : Fin 16} {e : Source} {k : SourceKey} {m : Nat} {n : Option Nat}

/-- R44, R51: the entry of a position that departs is told. -/
theorem waits_leave (hq : q = ctlPos c) (hx : x = .sourceState i { e with state := .stale } (Source.spent n { e with state := .stale }))
    (sources : ∀ j : Fin 16, ((0x59 : Nat), j.val) ∈ K) (room : m + K.card < 48) (other : k.pos ≠ q) (key : e.key = some k)
    (used : e.state ≠ .free) (notStale : e.state ≠ .stale) (source : s.source i = e) (time : s.time.t = n)
    (occupied : s.occupied q = true) (few : surplus K (keysOn (s.lane q).board) ≤ m) :
    waits ((s.leave k.pos).lane q).board x := by
  unfold State.leave
  rw [lane_departLoader, departSources_eq]
  rw [← lane_clearLane_of_ne other s] at few
  have start : (s.clearLane k.pos).source i = e ∧ (s.clearLane k.pos).time.t = n ∧ (s.clearLane k.pos).occupied q = true :=
    ⟨source, time, occupied⟩
  generalize s.clearLane k.pos = u at start few
  have none (j : Fin 16) : spares K (fun _ => False) (0x59, j.val) := ⟨sources j, fun _ h => h.elim⟩
  refine waits_foldl (P := fun u => u.source i = e ∧ u.time.t = n ∧ u.occupied q = true) (R := fun _ => True) (a := i)
    (mem_allEntries i) (by decide) (fun u j _ => carries_departEntry (none j) k.pos u q) (fun u j _ hj _ => ?_)
    (fun u j _ hj h => ?_) (fun _ _ _ _ => trivial) (fun u h few => ?_) (by omega) start trivial few
  · refine carries_departEntry ⟨sources j, fun y hy => ?_⟩ k.pos u q
    subst hy
    subst hx
    exact ⟨rfl, fun h => hj (Fin.ext (congrArg Prod.snd h).symm)⟩
  · obtain ⟨source, time, occupied⟩ := h
    have frame : Unchanged [.sources, .sched, .lanes] u (u.departEntry k.pos j) := by
      unfold State.departEntry
      split
      · exact Unchanged.ite _ (frame_putSource j _ u) (Unchanged.refl _ u)
      · exact Unchanged.refl _ u
    exact ⟨(source_departEntry _ u i j hj).trans source, (congrArg TimeBase.t (frame .time (by decide))).trans time,
      (occupied_of_roster (frame .roster (by decide)) q).trans occupied⟩
  · obtain ⟨source, time, occupied⟩ := h
    have changed : (u.source i).changed { e with state := .stale } = true := by simp [Source.changed, source, notStale]
    have controller : decide (q.val < 2) = true := by subst hq; cases c <;> rfl
    unfold State.departEntry
    rw [source, key]
    simp only [used, decide_true, ne_eq, not_false_eq_true, Bool.and_self, if_true]
    rw [putSource_eq, if_pos changed, time, ← hx]
    unfold State.notifyControllers
    rw [lane_notify, if_pos (by rw [controller]; exact occupied)]
    exact waits_queueOn (fun old => by subst hx; cases old <;> rfl) _ (board_lt few room)

end

end

end Sys2Proof.Machine

namespace Sys2Proof.Machine

set_option Elab.async false

/-! ### The boards through a frame's end (R116, R174) -/

section
variable {K : Finset (Nat × Nat)} {Q : Notice → Prop} {s v before : State} {q : Pos} {x : Notice} {segs : List (BitVec 48)}
  {order : FrameOrder}

theorem carries_arbitrate (lead : spares K Q (0x5D, 0)) (s : State) : Carries K Q 0 s s.arbitrate := by
  unfold State.arbitrate
  dsimp only
  exact Carries.ite (frame_setTime _ s).carries ((frame_setTime _ s).carries.trans₀ (carries_spared (by exact lead) _ _))

theorem carries_expireLoader (timeout : spares K Q (0x60, 0)) (s : State) : Carries K Q 0 s s.expireLoader := by
  unfold State.expireLoader
  refine Carries.ite ?_ (Carries.refl s)
  unfold State.timeOutLoad
  split
  · exact (frame_idleLoader s).carries.trans₀ (carries_spared (by exact timeout) _ _)
  · exact (frame_idleLoader s).carries

/-- After the Roster a frame's end tells of the lead and of a load that has timed out. -/
theorem carries_events (lead : spares K Q (0x5D, 0)) (timeout : spares K Q (0x60, 0)) :
    Carries K Q 0 (v.frameRoster segs before) (v.frameEvents segs before) := by
  unfold State.frameEvents
  generalize v.frameRoster segs before = u
  refine Carries.trans₀ ?_ (carries_expireLoader timeout _)
  refine Carries.trans₀ ?_ (frame_frameRehearsal _).carries
  exact Carries.trans₀ (frame_setTime _ u).carries (carries_arbitrate lead _)

theorem board_hear (f : Nat) (b : Byte) (last offer : Bool) (l : Lane) : (l.hear f b last offer).1.board = l.board := by
  have form (bytes : List Byte) (l : Lane) : (l.form bytes last).1.board = l.board := by
    unfold Lane.form
    dsimp only
    repeat' split
    all_goals rfl
  have byte (l : Lane) : (l.takeByte b last).1.board = l.board := by
    unfold Lane.takeByte
    split
    · exact form _ l
    · exact form _ l
    · split <;> rfl
    · rfl
  unfold Lane.hear
  split
  · rfl
  · split
    · rfl
    · split
      · exact byte _
      · rfl
    · exact byte _

theorem board_answer (take : Bool) (l : Lane) : (l.answer take).board = l.board := by
  have finish (t : Transfer) (l : Lane) : (l.finish t).board = l.board := by unfold Lane.finish; split <;> rfl
  unfold Lane.answer
  dsimp only
  split
  · rfl
  · split
    · split
      · rfl
      · exact finish _ _
    · rfl

/-- R160, R161: the lanes of a frame leave the boards. -/
theorem board_hearLanes (s : State) (q : Pos) : ((s.hearLanes segs).lane q).board = (s.lane q).board := by
  have lane : (s.hearLanes segs).lane q = (laneFrame s.time.frame (s.occupied q) (segmentOf segs q) (s.lane q)).1 :=
    Tab.get_build _ _
  rw [lane]
  unfold laneFrame
  split
  · rw [board_hear, board_answer]
  · rfl

theorem mem_lateRequests {a : Arrived} (h : a ∈ s.lateRequests segs order) : a ∈ requestsOf (s.arrivals segs) := by
  unfold State.lateRequests at h
  rcases List.mem_append.mp h with h | h
  · split at h
    · cases h
    · exact mem_requestOrder (List.mem_filter.mp h).1
  · rcases List.mem_append.mp h with h | h <;> exact mem_requestOrder (List.mem_filter.mp h).1

theorem readied_silent (silent : s.arrivals segs = []) : s.readied segs order = (s.hearLanes segs).tickLoader := by
  have prompts : s.prompts segs order = [] := by
    unfold State.prompts
    rw [silent]
    refine List.filter_eq_nil_iff.mpr fun a ha => ?_
    cases mem_requestOrder ha
  unfold State.readied State.heard
  rw [prompts, silent, ite_self]
  rfl

theorem late_silent (silent : s.arrivals segs = []) : s.lateRequests segs order = [] := by
  refine List.eq_nil_iff_forall_not_mem.mpr fun a ha => ?_
  have mem := mem_lateRequests ha
  rw [silent] at mem
  cases mem

theorem board_readied (silent : s.arrivals segs = []) (q : Pos) : ((s.readied segs order).lane q).board = (s.lane q).board := by
  have ticked (u : State) : u.tickLoader.lane q = u.lane q := by
    unfold State.lane
    rw [show u.tickLoader.lanes = u.lanes from frame_tickLoader u .lanes (by decide)]
  rw [readied_silent silent, ticked, board_hearLanes]

/-- The keys of the notices that a frame's end queues, but for those of a tally. -/
def frameKeys : Finset (Nat × Nat) := stateKeys ∪ {(0x5D, 0), (0x60, 0), (0x54, 0)}

theorem card_frameKeys : frameKeys.card = 31 := by decide +kernel

theorem source_mem_frameKeys (i : Fin 16) : ((0x59 : Nat), i.val) ∈ frameKeys :=
  Finset.mem_union_left _ (source_mem_stateKeys i)

theorem slot_mem_frameKeys (p : Pos) : ((0x58 : Nat), p.val) ∈ frameKeys := Finset.mem_union_left _ (slot_mem_stateKeys p)

theorem nodup_gone (v : State) : (v.gone segs).Nodup := List.Nodup.filter _ (by decide)

theorem nodup_tells (v : State) : (v.tells segs).Nodup := List.Nodup.filter _ (by decide)

/-- R51: the entry of a departing position is told once all departures of the frame are worked. -/
theorem waits_foldLeave {c : Ctl} {i : Fin 16} {k : SourceKey} {m : Nat} {gone : List Pos} (hq : q = ctlPos c)
    (hx : x = .sourceState i { s.source i with state := .stale } (Source.spent s.time.t { s.source i with state := .stale }))
    (sources : ∀ j : Fin 16, ((0x59 : Nat), j.val) ∈ K) (room : m + K.card < 48) (distinct : gone.Nodup)
    (departs : k.pos ∈ gone) (stays : q ∉ gone) (key : (s.source i).key = some k) (used : (s.source i).state ≠ .free)
    (notStale : (s.source i).state ≠ .stale) (occupied : s.occupied q = true)
    (few : surplus K (keysOn (s.lane q).board) ≤ m) : waits ((gone.foldl State.leave s).lane q).board x := by
  have apart {p : Pos} (h : p ∈ gone) : p ≠ q := fun e => stays (e ▸ h)
  refine waits_foldl (P := fun u => u.source i = s.source i ∧ u.time.t = s.time.t ∧ u.occupied q = true)
    (R := fun u => (u.source i).key = some k) (a := k.pos) departs distinct
    (fun u p hp => grows_leave (fun j => ⟨sources j, fun _ h => h.elim⟩) (apart hp) u)
    (fun u p hp other key => grows_leave_other hx sources (apart hp) key (Ne.symm other)) (fun u p _ other h => ?_)
    (fun u p _ h => ?_) (fun u h few => ?_) (by omega) ⟨rfl, rfl, occupied⟩ key few
  · obtain ⟨source, time, occupied⟩ := h
    refine ⟨?_, (congrArg TimeBase.t (frame_leave u p .time (by decide))).trans time, ((upholds_leave u p).occupied q).trans occupied⟩
    rw [source_leave, source, departed_of_ne key (Ne.symm other)]
  · rw [source_leave, key_departed, h]
  · obtain ⟨source, time, occupied⟩ := h
    exact waits_leave hq hx sources room (apart departs) key used notStale source time occupied few

theorem records_leave (s : State) (p : Pos) : (s.leave p).records = s.records := by
  have entry (s : State) (i : Fin 16) : (s.departEntry p i).records = s.records := by
    unfold State.departEntry State.records
    split
    · split
      · rw [sched_putSource]
      · rfl
    · rfl
  have all (l : List (Fin 16)) (s : State) : (l.foldl (State.departEntry p) s).records = s.records := by
    induction l generalizing s with
    | nil => rfl
    | cons i l ih => rw [List.foldl_cons, ih, entry]
  unfold State.leave
  rw [show ((s.clearLane p).departSources p |>.departLoader p).records = ((s.clearLane p).departSources p).records from
    congrArg Schedule.records (frame_departLoader p _ .sched (by decide)), departSources_eq, all]
  rfl

theorem records_foldLeave (gone : List Pos) (s : State) : (gone.foldl State.leave s).records = s.records := by
  induction gone generalizing s with
  | nil => rfl
  | cons p gone ih => rw [List.foldl_cons, ih, records_leave]

theorem not_vouching_foldLeave (gone : List Pos) {s : State} {i : Fin 16} (h : (s.source i).state ≠ .vouching) :
    ((gone.foldl State.leave s).source i).state ≠ .vouching := by
  induction gone generalizing s with
  | nil => exact h
  | cons p gone ih =>
    have left : ((s.leave p).source i).state ≠ .vouching := by
      rw [source_leave]
      unfold Source.departed
      split
      · simp
      · exact h
    rw [List.foldl_cons]
    exact ih left

theorem grows_foldLeave {gone : List Pos} (sources : ∀ i : Fin 16, spares K Q (0x59, i.val)) (stays : q ∉ gone) (s : State) :
    Grows K Q 0 (s.lane q).board ((gone.foldl State.leave s).lane q).board :=
  grows_foldl (R := fun _ => True) (fun u p hp _ => grows_leave sources (fun e : p = q => stays (e ▸ hp)) u)
    (fun _ _ _ _ => trivial) trivial

theorem carries_noteSlots (slots : ∀ p : Pos, spares K Q (0x58, p.val)) (l : List Pos) (s : State) :
    Carries K Q 0 s (l.foldl (fun s p => s.noteSlot p) s) := Carries.foldl (fun s p => carries_noteSlot (slots p) s) l s

section
variable {p : Pos} {c : Ctl} (silent : s.arrivals segs = []) (records : s.records = []) (hq : q = ctlPos c)
  (stays : q ∉ (s.readied segs order).gone segs) (occupied : ((s.readied segs order).seated segs).occupied q = true)
  (gone : p ∈ (s.readied segs order).gone segs)

theorem source_seated (silent : s.arrivals segs = []) :
    (∀ i, ((s.readied segs order).seated segs).source i = s.source i) ∧
    ((s.readied segs order).seated segs).time.t = s.time.t ∧ ((s.readied segs order).seated segs).records = s.records ∧
    ((s.readied segs order).seated segs).lane q = (s.readied segs order).lane q := by
  have frame : Unchanged [.lanes, .loader] s (s.readied segs order) := by
    rw [readied_silent silent]
    exact (frame_setLanes _ s).mono.trans (frame_tickLoader _).mono
  refine ⟨fun i => ?_, congrArg TimeBase.t (frame .time (by decide)), congrArg Schedule.records (frame .sched (by decide)), rfl⟩
  exact frame.source_eq (by decide) i

include silent records hq stays occupied gone

/-- R51: the entries of a position that departs are told. -/
theorem waits_rostered_source {i : Fin 16} {k : SourceKey} (key : (s.source i).key = some k) (at_ : k.pos = p)
    (used : (s.source i).state ≠ .free) (notStale : (s.source i).state ≠ .stale) (few : (s.lane q).board.length ≤ 5)
    (hx : x = .sourceState i { s.source i with state := .stale } (Source.spent s.time.t { s.source i with state := .stale })) :
    waits ((s.rostered segs order).lane q).board x ∧ surplus frameKeys (keysOn ((s.rostered segs order).lane q).board) ≤ 16 := by
  have spared {Q : Notice → Prop} {k : Nat × Nat} (mem : k ∈ frameKeys) (hQ : ∀ y, Q y → y.isArmed = false ∧ y.key ≠ k) :
      spares frameKeys Q k := ⟨mem, hQ⟩
  have own : ∀ y, y = x → y.isArmed = false ∧ y.code = 0x59 := by
    rintro y rfl
    subst hx
    exact ⟨rfl, rfl⟩
  have other {k : Nat × Nat} (mem : k ∈ frameKeys) (code : k.1 ≠ 0x59) : spares frameKeys (· = x) k :=
    spared mem fun y hy => ⟨(own y hy).1, fun e => code ((congrArg Prod.fst e).symm.trans (own y hy).2)⟩
  obtain ⟨source, time, records', lane⟩ := source_seated (q := q) (order := order) silent
  have few' : surplus frameKeys (keysOn (((s.readied segs order).seated segs).lane q).board) ≤ 5 := by
    rw [lane, board_readied silent]
    exact (surplus_le_board _).trans few
  unfold State.rostered
  have tail := carries_events (K := frameKeys) (Q := (· = x)) (v := s.readied segs order) (before := s) (segs := segs)
    (other (by decide) (by decide)) (other (by decide) (by decide))
  have noted : Carries frameKeys (· = x) 0 ((s.readied segs order).parted segs s) ((s.readied segs order).frameRoster segs s) :=
    carries_noteSlots (fun p => other (slot_mem_frameKeys p) (by simp)) _ _
  have parted : Grows frameKeys (· = x) 11
      (((s.readied segs order).gone segs).foldl State.leave ((s.readied segs order).seated segs) |>.lane q).board
      (((s.readied segs order).parted segs s).lane q).board := by
    have none : ((((s.readied segs order).gone segs).foldl State.leave ((s.readied segs order).seated segs)).records) = [] := by
      rw [records_foldLeave, records', records]
    unfold State.parted
    rw [departures_eq]
    generalize ((s.readied segs order).gone segs).foldl State.leave ((s.readied segs order).seated segs) = left at none
    split
    · have tally := carries_tally (K := frameKeys) (Q := (· = x)) (s := left) (fun y hy => by
        obtain ⟨unarmed, code⟩ := own y hy
        rw [code]
        exact ⟨unarmed, by decide, by decide, by decide⟩) (by rw [none]; exact quotasHold_nil) q
      rwa [none, show left.scaleCount = 0 by unfold State.scaleCount; rw [none]; rfl] at tally
    · exact (Grows.refl _).mono (Nat.zero_le _)
  have left := waits_foldLeave (K := frameKeys) (m := 5) (x := x) (i := i) (k := k) hq
    (by rw [source, time]; exact hx) source_mem_frameKeys (by rw [card_frameKeys]; omega) (nodup_gone _) (at_ ▸ gone) stays
    (by rw [source]; exact key) (by rw [source]; exact used) (by rw [source]; exact notStale) occupied few'
  have fewLeft := (grows_foldLeave (K := frameKeys) (Q := fun _ => False) (fun i => spared (source_mem_frameKeys i)
    fun _ h => h.elim) stays ((s.readied segs order).seated segs) 5 (by rw [card_frameKeys]; omega) few').1
  have all := (parted.trans (noted q)).trans (tail q)
  obtain ⟨few'', keeps⟩ := all 5 (by rw [card_frameKeys]; omega) fewLeft
  exact ⟨keeps x rfl left, few''⟩

/-- R116: where no source is in use, a position that departs is told. -/
theorem waits_rostered_slot (still : ∀ i, (s.source i).state ≠ .vouching) (few : (s.lane q).board.length ≤ 10)
    (hx : x = .slotState p ((s.readied segs order).frameAt segs p).1.report) :
    waits ((s.rostered segs order).lane q).board x ∧ surplus frameKeys (keysOn ((s.rostered segs order).lane q).board) ≤ 10 := by
  have spared {Q : Notice → Prop} {k : Nat × Nat} (mem : k ∈ frameKeys) (hQ : ∀ y, Q y → y.isArmed = false ∧ y.key ≠ k) :
      spares frameKeys Q k := ⟨mem, hQ⟩
  have key : x.isArmed = false ∧ x.key = (0x58, p.val) := by subst hx; exact ⟨rfl, rfl⟩
  have other {k : Nat × Nat} (mem : k ∈ frameKeys) (apart : k ≠ (0x58, p.val)) : spares frameKeys (· = x) k := by
    refine spared mem fun y hy => ?_
    subst hy
    exact ⟨key.1, fun e => apart (e.symm.trans key.2)⟩
  obtain ⟨source, -, records', lane⟩ := source_seated (q := q) (order := order) silent
  have few' : surplus frameKeys (keysOn (((s.readied segs order).seated segs).lane q).board) ≤ 10 := by
    rw [lane, board_readied silent]
    exact (surplus_le_board _).trans few
  unfold State.rostered
  have tail := carries_events (K := frameKeys) (Q := (· = x)) (v := s.readied segs order) (before := s) (segs := segs)
    (other (by decide) (by simp)) (other (by decide) (by simp))
  have fewLeft := (grows_foldLeave (K := frameKeys) (Q := fun _ => False) (fun i => spared (source_mem_frameKeys i)
    fun _ h => h.elim) stays ((s.readied segs order).seated segs) 10 (by rw [card_frameKeys]; omega) few').1
  have parted : (((s.readied segs order).parted segs s).lane q) =
      (((s.readied segs order).gone segs).foldl State.leave ((s.readied segs order).seated segs)).lane q := by
    have records' : (((s.readied segs order).gone segs).foldl State.leave ((s.readied segs order).seated segs)).records = [] := by
      rw [records_foldLeave, records', records]
    have voters : (((s.readied segs order).gone segs).foldl State.leave ((s.readied segs order).seated segs)).voters = [] := by
      refine List.filterMap_eq_nil_iff.mpr fun i _ => ?_
      have state : ((((s.readied segs order).gone segs).foldl State.leave ((s.readied segs order).seated segs)).source i).state ≠
          .vouching := not_vouching_foldLeave _ (by rw [source]; exact still i)
      unfold State.voter
      dsimp only
      split
      · next h _ _ => exact absurd h state
      · rfl
    unfold State.parted
    rw [departures_eq]
    split
    · unfold State.lane
      rw [lanes_tally_idle voters records']
    · rfl
  rw [← parted] at fewLeft
  have pos : ((s.readied segs order).parted segs s).pos p = ((s.readied segs order).frameAt segs p).1 := by
    rw [(frame_parted segs _ s).pos_eq, pos_seated]
  have occupied' := ((upholds_parted segs (s.readied segs order) s).occupied q).trans occupied
  rw [frameRoster_eq] at tail
  generalize (s.readied segs order).parted segs s = w at fewLeft pos occupied' tail
  have tells : p ∈ (s.readied segs order).tells segs := by
    rw [mem_gone] at gone
    simp [State.tells, mem_allPos, gone]
  have none (r : Pos) : spares frameKeys (fun _ => False) (0x58, r.val) := spared (slot_mem_frameKeys r) fun _ h => h.elim
  have noted := waits_foldl (K := frameKeys) (x := x) (m := 10) (q := q) (f := fun s p => s.noteSlot p)
    (P := fun u => u.pos p = ((s.readied segs order).frameAt segs p).1 ∧ u.occupied q = true) (R := fun _ => True) tells
    (nodup_tells _) (fun u r _ => carries_noteSlot (none r) u q)
    (fun u r _ hr _ => carries_noteSlot (other (slot_mem_frameKeys r) fun e => hr (Fin.ext (congrArg Prod.snd e))) u q)
    (fun u r _ _ h => h) (fun _ _ _ _ => trivial) (fun u h few => ?_) (by rw [card_frameKeys]; omega) ⟨pos, occupied'⟩ trivial fewLeft
  · have fewNoted := (carries_noteSlots (K := frameKeys) (Q := fun _ => False) none ((s.readied segs order).tells segs) w q 10
      (by rw [card_frameKeys]; omega) fewLeft).1
    obtain ⟨few'', keeps⟩ := tail q 10 (by rw [card_frameKeys]; omega) fewNoted
    exact ⟨keeps x rfl noted, few''⟩
  · obtain ⟨pos, occupied⟩ := h
    have controller : decide (q.val < 2) = true := by subst hq; cases c <;> rfl
    unfold State.noteSlot State.notifyControllers
    rw [lane_notify, if_pos (by rw [controller]; exact occupied), pos, ← hx]
    exact waits_queueOn (fun old => by subst hx; cases old <;> rfl) _ (board_lt few (by rw [card_frameKeys]; omega))

end

end

/-! ### The departure as a whole (R104) -/

section
variable {s w : State} {q : Pos} {x : Notice} {segs : List (BitVec 48)} {order : FrameOrder} {realign : Bool}

theorem empty_of_gone (h : q ∈ s.gone segs) : (s.frameAt segs q).1.state = .empty := by
  have event := (mem_gone segs s q).mp h
  unfold State.frameAt at event ⊢
  obtain ⟨state, event'⟩ := frameOf_state s.g8 q (segmentOf segs q) (s.pos q)
  rw [state]
  rw [event'] at event
  by_cases idle : (s.pos q).nextIntent (segmentOf segs q) = .idle
  · by_cases empty : (s.pos q).state = .empty
    · rw [Position.frame_stays _ empty idle] at event
      cases event
    · rw [Position.frame_departs _ empty idle]
      rfl
  · exact absurd event (Position.frame_seated _ idle).2

/-- A position that is not EMPTY once the next frame has begun has not departed. -/
theorem stays_of_opened
    (h : ((s.rostered segs order).settleLoader.setTime
      ((s.rostered segs order).settleLoader.time.advanceFrame realign)).openFrame.occupied q = true) :
    q ∉ (s.readied segs order).gone segs ∧ ((s.readied segs order).seated segs).occupied q = true := by
  have opened : Upholds (s.rostered segs order) ((s.rostered segs order).settleLoader.setTime
      ((s.rostered segs order).settleLoader.time.advanceFrame realign)).openFrame :=
    ((upholds_settleLoader _).trans (upholds_advanceFrame realign _)).trans (upholds_openFrame _)
  rw [opened.occupied] at h
  have pos : (s.rostered segs order).pos q = ((s.readied segs order).frameAt segs q).1 := pos_frameEvents segs _ _ q
  have state : ((s.readied segs order).frameAt segs q).1.state ≠ .empty := by
    rw [← pos]
    simpa [State.occupied] using h
  refine ⟨fun gone => state (empty_of_gone gone), ?_⟩
  unfold State.occupied
  rw [pos_seated]
  simpa using state

theorem pos_opened (empty : w.occupied q = false) :
    (w.settleLoader.setTime (w.settleLoader.time.advanceFrame realign)).openFrame.pos q = w.pos q := by
  have same (u : State) (b : TimeBase) : (u.settleLoader.setTime b).pos q = u.pos q := rfl
  have before := same w (w.settleLoader.time.advanceFrame realign)
  rw [pos_openFrame ((occupied_of_pos before).trans empty), before]

theorem told_opened {m : Nat} (plain : x.isOffer = false) (other : x.key ≠ (0x54, 0)) (unarmed : x.isArmed = false)
    (slots : ∀ p : Pos, w.occupied p = true → x.key ≠ (0x58, p.val)) (room : m ≤ 17)
    (h : waits (w.lane q).board x ∧ surplus frameKeys (keysOn (w.lane q).board) ≤ m) :
    (w.settleLoader.setTime (w.settleLoader.time.advanceFrame realign)).openFrame.told q x :=
  told_openFrame (K := frameKeys) plain (fun p hp => ⟨slot_mem_frameKeys p, fun y e => e ▸ ⟨unarmed, slots p hp⟩⟩)
    ⟨by decide, fun y e => e ▸ ⟨unarmed, other⟩⟩ (by rw [card_frameKeys]; omega) h.1 h.2

end

/-- Settles O21: the Roster takes the departure (`departs_readied`), after which nothing touches the position, its lane or its
sources (`left_of_rostered`, `sourcesLeft_of_rostered`), and the notices find room (`waits_rostered_source`,
`waits_rostered_slot`). -/
theorem departureEmptiesPosition : Obligations.DepartureEmptiesPosition := by
  intro s segs order p running due occupied idle
  obtain ⟨realign, u, hu, next⟩ := frameEnd_eq segs order running due
  refine ⟨_, next, ?_⟩
  have none_taken (w : State) : w.takeRequests [] [] = w := rfl
  have arrivals : s.nextMoment.arrivals segs = s.arrivals segs := rfl
  obtain ⟨vacant, gone⟩ := departs_readied (s := s.nextMoment) (order := order) (segs := segs) (p := p) occupied idle
  have pos : (s.nextMoment.rostered segs order).pos p = ((s.nextMoment.readied segs order).frameAt segs p).1 :=
    pos_frameEvents segs _ _ p
  have vacant' := vacant
  rw [← pos] at vacant'
  have empty : (s.nextMoment.rostered segs order).occupied p = false := by simp [State.occupied, vacant'.1]
  obtain ⟨clear, lead⟩ := left_frameEvents (before := s.nextMoment) gone vacant
  obtain ⟨⟨state, intent, role, held, ready, lag, takeCheck, cursor⟩, ⟨lane, claim, live⟩, lead'⟩ :=
    left_of_rostered (realign := realign) u hu empty clear vacant' lead
  refine ⟨state, intent, role, held, ready, lag, takeCheck, cursor, lane, lead', ?_, ?_, ?_, ?_, ?_, ?_, ?_⟩
  · exact claim
  · exact fun i k key at_ => not_or.mp (live i k key at_)
  · intro mute
    refine sourcesLeft_of_rostered u hu empty (fun a ha => mute a ?_) (sourcesLeft_frameEvents gone)
    exact mem_lateRequests ha
  · intro i k silent key at_ used notStale
    rw [hu, late_silent (arrivals.trans silent)]
    exact (sameVotes_opened realign).agreed (agreed_of_holding gone key at_ used notStale)
  · intro r i k alone key at_ gained
    have lost : (s.nextMoment.rostered segs order).takeRequests [] (s.nextMoment.lateRequests segs order) =
        s.nextMoment.rostered segs order := by
      refine takeRequests_lost fun a ha => ?_
      have mem := mem_lateRequests ha
      rw [arrivals, alone] at mem
      rw [List.mem_singleton.mp mem]
      exact empty
    rw [lost] at hu
    subst hu
    have votes := sameVotes_opened (w := s.nextMoment.rostered segs order) realign
    have key' : ((s.nextMoment.readied segs order).source i).key = some k := by
      rw [← key_frameEvents (segs := segs) (before := s.nextMoment) i, ← key]
      unfold State.source
      rw [votes.sources]
      rfl
    obtain ⟨first, announced⟩ := announced_of_gained (arrivals ▸ alone) key' gained
    refine ⟨first, votes.agreed (agreed_frameEvents ?_)⟩
    unfold State.departuresPrompt
    rw [List.any_eq_true.mpr ⟨p, gone, announced⟩, Bool.or_true]
  · intro silent i k key at_ used
    rw [late_silent (arrivals.trans silent), none_taken] at hu
    subst hu
    have seated := source_seated (q := p) (order := order) (arrivals.trans silent)
    have source : (s.nextMoment.rostered segs order).source i = { s.source i with state := .stale } := by
      have same : (s.nextMoment.readied segs order).source i = s.source i := seated.1 i
      unfold State.rostered
      rw [source_frameEvents_gone (k := k) (by rw [same]; exact key) (at_ ▸ gone), same]
      simp [Source.departed, key, used]
    have votes := sameVotes_opened (w := s.nextMoment.rostered segs order) realign
    have opened : ((s.nextMoment.rostered segs order).settleLoader.setTime
        ((s.nextMoment.rostered segs order).settleLoader.time.advanceFrame realign)).openFrame.source i =
        { s.source i with state := .stale } := by
      rw [← source]
      unfold State.source
      rw [votes.sources]
    refine ⟨opened, fun c notStale records occupiedC few => ?_⟩
    obtain ⟨stays, occupied⟩ := stays_of_opened occupiedC
    have told := waits_rostered_source (order := order) (arrivals.trans silent) records rfl stays occupied gone key at_ used
      notStale few rfl
    have second : (s.nextMoment.rostered segs order).time.t = s.time.t := by
      unfold State.rostered
      rw [second_frameEvents, congrArg TimeBase.t (frame_roster segs _ _ .time (by decide))]
      exact seated.2.1
    refine told_opened (m := 16) rfl (by simp [Notice.key, Notice.code]) rfl (fun _ _ => by simp [Notice.key, Notice.code])
      (by omega) ?_
    rw [opened, votes.second, second]
    exact told
  · intro c still records silent occupiedC few
    rw [late_silent (arrivals.trans silent), none_taken] at hu
    subst hu
    obtain ⟨stays, seated⟩ := stays_of_opened occupiedC
    have told := waits_rostered_slot (order := order) (arrivals.trans silent) records rfl stays seated gone
      (fun i => (still.1 i).2) few rfl
    have same : ((s.nextMoment.rostered segs order).settleLoader.setTime
        ((s.nextMoment.rostered segs order).settleLoader.time.advanceFrame realign)).openFrame.pos p =
        ((s.nextMoment.readied segs order).frameAt segs p).1 := (pos_opened empty).trans pos
    rw [same]
    have other : ∀ r : Pos, (s.nextMoment.rostered segs order).occupied r = true →
        (Notice.slotState p ((s.nextMoment.readied segs order).frameAt segs p).1.report).key ≠ (0x58, r.val) := by
      intro r hr e
      have own : p = r := Fin.ext (congrArg Prod.snd e)
      rw [← own, empty] at hr
      cases hr
    exact told_opened (m := 10) rfl (by simp [Notice.key, Notice.code]) rfl other (by omega) told

end Sys2Proof.Machine

namespace Sys2Proof.Machine

set_option Elab.async false

/-! ### The form of a parcel fed byte by byte (R164) -/

section
variable {l : Lane} {kind len : Byte}

/-- R164: once refused, a parcel is drained to its last byte. -/
theorem feed_draining {bs : List Byte} (some_left : bs ≠ []) (draining : l.inbound = .draining) :
    feed bs l = (l.owe (badFormResponse (l.buffer.headD 0)), none) := by
  induction bs with
  | nil => exact absurd rfl some_left
  | cons b bs ih =>
    have on : l.takeByte b false = (l, none) := by simp [Lane.takeByte, draining]
    have end_ : l.takeByte b true = (l.owe (badFormResponse (l.buffer.headD 0)), none) := by simp [Lane.takeByte, draining]
    cases bs with
    | nil => exact end_
    | cons c cs =>
      rw [feed, on]
      exact ih (by simp)
      simp

/-- R164: a parcel whose length byte fits, fed on. -/
theorem feed_receiving {got bs : List Byte} (some_left : bs ≠ []) (fits : len.toNat ≤ 30)
    (receiving : l.inbound = .receiving) (buffer : l.buffer = kind :: len :: got) (open_ : got.length < len.toNat) :
    feed bs l = if got.length + bs.length = len.toNat
      then ({ l with inbound := .held, buffer := [] }, some (kind, got ++ bs))
      else (l.owe (badFormResponse kind), none) := by
  induction bs generalizing l got with
  | nil => exact absurd rfl some_left
  | cons b bs ih =>
    have taken (last : Bool) : l.takeByte b last = l.form (kind :: len :: (got ++ [b])) last := by
      simp [Lane.takeByte, receiving, buffer]
    have long : ¬ 30 < len.toNat := by omega
    cases bs with
    | nil =>
      rw [feed, taken]
      unfold Lane.form
      simp only [List.tail_cons, long, if_false, if_true, List.length_cons, List.length_append, List.length_nil, List.headD_cons]
      by_cases whole : got.length + 1 = len.toNat
      · rw [if_neg (by omega), if_pos (by omega)]
      · rw [if_pos (by omega), if_neg (by omega)]
    | cons c cs =>
      rw [feed, taken]
      · unfold Lane.form
        simp only [List.tail_cons, long, if_false, List.length_cons, List.length_append, List.length_nil, Bool.false_eq_true]
        by_cases whole : got.length + 1 = len.toNat
        · rw [if_pos (by omega), if_neg (by omega), feed_draining (by simp) rfl]
          rfl
        · rw [if_neg (by omega), ih (by simp) rfl rfl (by simp; omega)]
          simp only [List.length_append, List.length_cons, List.length_nil, List.append_assoc, List.cons_append, List.nil_append]
          by_cases fit : got.length + (cs.length + 1 + 1) = len.toNat
          · rw [if_pos (by omega), if_pos (by omega)]
          · rw [if_neg (by omega), if_neg (by omega)]
            rfl
      · simp

theorem feed_kind (opened : l.inbound = .opened) : feed [kind] l = (l.owe (badFormResponse kind), none) := by
  simp [feed, Lane.takeByte, opened, Lane.form]

/-- R164: the form of a parcel of at least two bytes. -/
theorem feed_parcel (rest : List Byte) (opened : l.inbound = .opened) :
    feed (kind :: len :: rest) l = if len.toNat ≤ 30 ∧ rest.length = len.toNat
      then ({ l with inbound := .held, buffer := [] }, some (kind, rest))
      else (l.owe (badFormResponse kind), none) := by
  have first : l.takeByte kind false = ({ l with inbound := .receiving, buffer := [kind] }, none) := by
    simp [Lane.takeByte, opened, Lane.form]
  have second (last : Bool) : ({ l with inbound := .receiving, buffer := [kind] } : Lane).takeByte len last =
      ({ l with inbound := .receiving, buffer := [kind] } : Lane).form [kind, len] last := by
    simp [Lane.takeByte]
  rw [feed, first]
  · cases rest with
    | nil =>
      rw [feed, second]
      by_cases long : 30 < len.toNat
      · rw [if_neg (by omega)]
        simp [Lane.form, long, Lane.owe]
      · by_cases none_due : len.toNat = 0
        · simp [Lane.form, none_due]
        · rw [if_neg (by simp; omega)]
          simp [Lane.form, long, Lane.owe, Nat.pos_of_ne_zero none_due]
    | cons b bs =>
      rw [feed, second]
      · by_cases long : 30 < len.toNat
        · rw [if_neg (by omega)]
          simp only [Lane.form, List.tail_cons, if_pos long, Bool.false_eq_true, if_false]
          rw [feed_draining (by simp) rfl]
          rfl
        · by_cases none_due : len.toNat = 0
          · rw [if_neg (by simp; omega)]
            simp only [Lane.form, List.tail_cons, if_false, none_due, List.length_cons, List.length_nil,
              Bool.false_eq_true, Nat.add_zero, Nat.zero_add, Nat.reduceAdd, if_true]
            rw [feed_draining (by simp) rfl]
            rfl
          · have short : ¬ 2 = 2 + len.toNat := by omega
            simp only [Lane.form, List.tail_cons, long, if_false, List.length_cons, List.length_nil,
              Bool.false_eq_true, Nat.zero_add, Nat.reduceAdd, short]
            rw [feed_receiving (by simp) (by omega) rfl rfl (by simp; omega)]
            simp only [List.length_nil, Nat.zero_add, List.nil_append]
            by_cases fit : (b :: bs).length = len.toNat
            · rw [if_pos fit, if_pos ⟨by omega, fit⟩]
            · rw [if_neg fit, if_neg fun h => fit h.2]
              rfl
      · simp
  · simp

theorem malformed_iff (rest : List Byte) : malformed (kind :: len :: rest) = some kind ↔
    ¬(len.toNat ≤ 30 ∧ rest.length = len.toNat) ∨ Request.parse kind rest = .error .badForm := by
  unfold malformed
  rw [feed_parcel rest rfl]
  by_cases fit : len.toNat ≤ 30 ∧ rest.length = len.toNat
  · rw [if_pos fit]
    dsimp only
    cases parsed : Request.parse kind rest with
    | ok r => simp [fit]
    | error c => cases c <;> simp [fit]
  · rw [if_neg fit]
    simp [fit, Lane.owe]

end

end Sys2Proof.Machine

namespace Sys2Proof.Machine

set_option Elab.async false

/-! ### Every request of a frame is taken (R148, R165) -/

theorem reslot_perm {α : Type} {f : α → Bool} {l m : List α} (h : l.length = (m.filter f).length) :
    (reslot f l m).Perm (l ++ m.filter fun x => !f x) := by
  induction m generalizing l with
  | nil =>
    obtain rfl := List.length_eq_zero_iff.mp h
    exact .nil
  | cons x m ih =>
    unfold reslot
    cases hx : f x with
    | true =>
      rw [List.filter_cons_of_pos hx] at h
      cases l with
      | nil => cases h
      | cons y l =>
        simp only [if_true, List.cons_append, List.filter_cons, hx, Bool.not_true, Bool.false_eq_true, if_false]
        exact (ih (by simpa using h)).cons y
    | false =>
      rw [List.filter_cons_of_neg (by simp [hx])] at h
      simp only [Bool.false_eq_true, if_false, List.filter_cons, hx, Bool.not_false, if_true]
      exact ((ih h).cons x).trans List.perm_middle.symm

theorem reslot_filter_perm {α : Type} {f : α → Bool} {k l m : List α} (h : m.Perm l) (own : k.Perm (l.filter f)) :
    (reslot f k m).Perm l := by
  have mine : k.Perm (m.filter f) := own.trans (h.filter f).symm
  exact ((reslot_perm mine.length_eq).trans (mine.append_right _)).trans ((List.filter_append_perm f m).trans h)

theorem flatMap_lanes_perm {lanes : List Pos} (all : ∀ p, p ∈ lanes) (distinct : lanes.Nodup) (l : List Arrived) :
    (lanes.flatMap fun p => l.filter fun a => decide (a.1 = p)).Perm l := by
  refine List.perm_iff_count.mpr fun a => ?_
  obtain ⟨before, after, rfl⟩ := List.append_of_mem (all a.1)
  obtain ⟨-, nodup, apart⟩ := List.nodup_append.mp distinct
  have none {k : List Pos} (h : ∀ p ∈ k, p ≠ a.1) :
      (k.flatMap fun p => l.filter fun a => decide (a.1 = p)).count a = 0 := by
    refine List.count_eq_zero.mpr fun mem => ?_
    obtain ⟨p, hp, mem⟩ := List.mem_flatMap.mp mem
    exact h p hp (of_decide_eq_true (List.mem_filter.mp mem).2).symm
  rw [List.flatMap_append, List.flatMap_cons, List.count_append, List.count_append,
    none fun p hp => apart p hp a.1 (List.mem_cons_self ..), none fun p hp e => (List.nodup_cons.mp nodup).1 (e ▸ hp),
    List.count_filter (by simp)]
  omega

theorem setsPosition_of_own {a : Arrived} (h : setsOwn a = true) : setsPosition a = true := by
  unfold setsOwn at h
  unfold setsPosition
  split at h
  · rfl
  · cases h

/-- The order takes each request of the frame once. -/
theorem requestOrder_perm (first : List Pos) (l : List Arrived) : (requestOrder first l).Perm l := by
  have lanes := flatMap_lanes_perm (lanes := dedupBy (fun x y => decide (x = y)) (first ++ allPos))
    (fun p => mem_dedupBy (List.mem_append_right _ (mem_allPos p)))
    ((dedupBy_pairwise _ _).imp fun h => by simpa using h) l
  have announces := reslot_filter_perm (f := fun a : Arrived => a.2.isAnnounce) lanes (.refl _)
  unfold requestOrder
  refine reslot_filter_perm announces ?_
  have ordered := announces.filter setsPosition
  generalize reslot _ _ _ = taken at ordered ⊢
  have own : (taken.filter setsPosition).filter setsOwn = taken.filter setsOwn := by
    rw [List.filter_filter]
    refine List.filter_congr fun a _ => ?_
    cases h : setsOwn a with
    | true => rw [setsPosition_of_own h]; rfl
    | false => rfl
  have other : (taken.filter setsPosition).filter (fun a => !setsOwn a) =
      taken.filter fun a => setsPosition a && !setsOwn a := by
    rw [List.filter_filter]
    exact List.filter_congr fun a _ => Bool.and_comm _ _
  rw [← own, ← other]
  exact (List.filter_append_perm setsOwn (taken.filter setsPosition)).trans ordered

end Sys2Proof.Machine

namespace Sys2Proof.Machine

set_option Elab.async false

/-! ### The inward direction of a lane (R160, R165, R166)

What a request, the Roster or the lane arbiter does to a lane that it is not itself the answer of, it does to the board and to the
outward direction. -/

/-- R160, R165: what a lane has taken in, and what it owes for it. -/
def Lane.inward (l : Lane) : Lane :=
  { Lane.initial with inbound := l.inbound, take := l.take, buffer := l.buffer, owed := l.owed }

/-- The inward direction of the lane of position `q` stands. -/
def SameInward (q : Pos) (s t : State) : Prop := (t.lane q).inward = (s.lane q).inward

theorem inward_iff {l m : Lane} : m.inward = l.inward ↔
    m.take = l.take ∧ m.inbound = l.inbound ∧ m.buffer = l.buffer ∧ m.owed = l.owed := by
  simp only [Lane.inward, Lane.mk.injEq, and_true]
  tauto

section
variable {s t u : State} {q : Pos}

theorem SameInward.refl (s : State) : SameInward q s s := rfl

theorem SameInward.trans (h : SameInward q s t) (k : SameInward q t u) : SameInward q s u := Eq.trans k h

theorem SameInward.ite {c : Prop} [Decidable c] (h : SameInward q s t) (k : SameInward q s u) :
    SameInward q s (if c then t else u) := by
  split <;> assumption

theorem SameInward.iteFst {α : Type} {c : Prop} [Decidable c] {x y : State × α} (h : SameInward q s x.1)
    (k : SameInward q s y.1) : SameInward q s (if c then x else y).1 := by
  split <;> assumption

theorem SameInward.foldl {α : Type} {f : State → α → State} {l : List α} (h : ∀ s, ∀ x ∈ l, SameInward q s (f s x)) (s : State) :
    SameInward q s (l.foldl f s) := by
  induction l generalizing s with
  | nil => exact .refl s
  | cons x l ih => exact (h s x (List.mem_cons_self ..)).trans (ih (fun s y hy => h s y (List.mem_cons_of_mem _ hy)) _)

theorem Unchanged.inward {but : List Block} (h : Unchanged but s t) (hb : Block.lanes ∉ but := by decide) :
    SameInward q s t := by
  unfold SameInward State.lane
  rw [show t.lanes = s.lanes from h .lanes hb]

theorem inward_setLane_of_ne {p : Pos} (l : Lane) (other : p ≠ q) (s : State) : SameInward q s (s.setLane p l) := by
  unfold SameInward
  rw [State.setLane_lane, if_neg other]

/-! ### Boards -/

theorem inward_notify (who : Pos → Bool) (x : Notice) (s : State) : SameInward q s (s.notifyWhere who x) := by
  unfold SameInward
  rw [lane_notify]
  split <;> rfl

theorem inward_clearBoards (f : Notice → Bool) (s : State) : SameInward q s (s.clearBoards f) := by
  unfold SameInward State.clearBoards State.lane
  rw [Tab.get_map]
  rfl

theorem inward_refreshOffers (s : State) : SameInward q s s.refreshOffers := by
  unfold SameInward
  rw [lane_refreshOffers]
  split
  · split <;> rfl
  · rfl

theorem inward_finish (s : State) : SameInward q s s.finish := (inward_refreshOffers s).trans (frame_sync _).inward

/-! ### The tally (R57) -/

theorem inward_withdraw (r : Record) (why : Reason) (s : State) : SameInward q s (s.withdraw r why) := by
  rw [withdraw_eq]
  exact (frame_takeOut r why s).inward.trans (inward_notify _ _ _)

theorem inward_withdrawIf (c : State → Record → Bool) (why : Reason) (l : List Record) (s : State) :
    SameInward q s (l.foldl (fun s r => if c s r then s.withdraw r why else s) s) :=
  SameInward.foldl (fun s r _ => SameInward.ite (inward_withdraw r why s) (.refl s)) s

theorem inward_tryNewcomer {vs : List Voter} {n : Refused} (h : s.tryNewcomer vs n = some t) : SameInward q s t := by
  unfold State.tryNewcomer at h
  split at h
  · cases h; exact (frame_placeNewcomer vs n s).inward
  · split at h
    · cases h; exact (inward_withdraw _ _ s).trans (frame_placeNewcomer vs n _).inward
    · cases h

theorem inward_placeAll (vs : List Voter) (l : List Refused) (s : State) (f : Option Refused) :
    SameInward q s (placeAll vs l (s, f)).1 := by
  induction l generalizing s f with
  | nil => exact .refl s
  | cons n ns ih =>
    unfold placeAll
    split
    · next h => exact (inward_tryNewcomer h).trans (ih _ _)
    · exact ih _ _

theorem inward_setRefused (held : Bool) (f : Option Refused) (s : State) : SameInward q s (s.setRefused held f) := by
  unfold State.setRefused
  split
  · exact SameInward.ite (.refl s) (frame_withSched _ s).inward
  · exact SameInward.ite (frame_withSched _ s).inward ((frame_withSched _ s).inward.trans (inward_notify _ _ _))

theorem inward_tallyLapse (s : State) : SameInward q s s.tallyLapse :=
  SameInward.foldl (fun s _ _ => SameInward.ite (inward_withdraw _ _ s) (SameInward.ite (inward_withdraw _ _ s) (.refl s))) s

theorem inward_tallyQualify (vs : List Voter) (s : State) : SameInward q s (s.tallyQualify vs) :=
  (SameInward.foldl (fun s id _ => (frame_judge vs id s).inward) s).trans
    (SameInward.foldl (fun s _ _ => inward_notify _ _ s) _)

theorem inward_tallyOppose (s : State) : SameInward q s s.tallyOppose :=
  SameInward.foldl (fun s _ _ => SameInward.ite (inward_withdraw _ _ s) (.refl s)) s

theorem inward_tally (s : State) : SameInward q s s.tally := by
  unfold State.tally
  dsimp only
  refine SameInward.trans ?_ (frame_tallyRelease _ _).inward
  refine SameInward.trans ?_ (inward_tallyOppose _)
  refine SameInward.trans ?_ (inward_tallyQualify _ _)
  refine SameInward.trans ?_ ((inward_placeAll _ _ _ none).trans (inward_setRefused _ _ _))
  refine SameInward.trans ?_ (frame_tallyPurge _ _).inward
  refine SameInward.trans ?_ (inward_tallyLapse _)
  exact (frame_tallyCounts _ s).inward.trans (frame_tallyAgreement _).inward

/-! ### Requests -/

theorem inward_putSource (i : Fin 16) (e : Source) (s : State) : SameInward q s (s.putSource i e) := by
  have rewritten : SameInward q s (s.rewritten i e) := rfl
  rw [putSource_eq]
  exact SameInward.ite (rewritten.trans (inward_notify _ _ _)) rewritten

theorem inward_departSources (p : Pos) (s : State) : SameInward q s (s.departSources p) := by
  rw [departSources_eq]
  refine SameInward.foldl (fun s i _ => ?_) s
  unfold State.departEntry
  split
  · exact SameInward.ite (inward_putSource i _ s) (.refl s)
  · exact .refl s

theorem inward_prompt (i : Fin 16) (e : Source) (s : State) : SameInward q s (s.prompt i e) :=
  SameInward.ite ((inward_putSource i e s).trans (inward_tally _)) (inward_putSource i e s)

theorem inward_accept (b : List Byte) (h : SameInward q s t) : SameInward q s (accept t b).1 := h

theorem inward_announce (leaving : Bool) (p : Pos) (o d k : Byte) (i : Option (BitVec 40)) (s : State) :
    SameInward q s (announce leaving p o d k i s).1 := by
  unfold announce
  split
  · exact .refl s
  · refine SameInward.iteFst (.refl s) (SameInward.iteFst (.refl s) ?_)
    split
    · exact .refl s
    · unfold takeView
      split
      · exact .refl s
      · exact SameInward.ite ((inward_putSource _ _ s).trans (inward_departSources _ _)) (inward_prompt _ _ s)

theorem inward_muteSource (p : Pos) (x o : Byte) (m : Option Bool) (s : State) : SameInward q s (muteSource p x o m s).1 := by
  unfold muteSource
  refine SameInward.iteFst (.refl s) ?_
  split
  · split
    · split
      · exact .refl s
      · exact SameInward.iteFst (inward_accept _ (inward_prompt _ _ s)) (SameInward.iteFst (inward_accept _ (inward_prompt _ _ s)) (.refl s))
    · exact .refl s
  · exact .refl s

theorem inward_placeOffset (v : Nat) (s : State) : SameInward q s (placeOffset v s).1 := by
  have done {u : State} (h : SameInward q s u) : SameInward q s (accept ((u.unlist (.baseline v)).operatorBaseline v).tally).1 :=
    inward_accept _ (((h.trans (frame_unlist _ u).inward).trans (frame_operatorBaseline v _).inward).trans (inward_tally _))
  have replaced : SameInward q s (s.replaceBaselines v) := inward_withdrawIf _ _ _ s
  unfold placeOffset
  dsimp only
  refine SameInward.iteFst (done replaced) ?_
  split
  · exact done (replaced.trans (inward_withdraw _ _ _))
  · exact .refl s

theorem inward_setOffset (p : Pos) (v : BitVec 16) (s : State) : SameInward q s (setOffset p v s).1 := by
  unfold setOffset
  dsimp only
  refine SameInward.iteFst (.refl s) (SameInward.iteFst (.refl s) (SameInward.iteFst (.refl s) ?_))
  refine SameInward.iteFst (SameInward.iteFst (.refl s) (.refl s)) ?_
  split
  · exact inward_accept _ ((frame_updateRecord _ _ s).inward.trans (inward_tally _))
  · exact inward_placeOffset _ s

theorem inward_confirm (p : Pos) (id : Byte) (s : State) : SameInward q s (confirm p id s).1 := by
  unfold confirm
  refine SameInward.iteFst (.refl s) (SameInward.iteFst ?_ ?_)
  · split
    · exact .refl s
    · exact SameInward.iteFst (.refl s) (.refl s)
  · split
    · exact .refl s
    · exact SameInward.iteFst (inward_accept _ ((frame_updateRecord _ _ s).inward.trans (inward_tally _))) (.refl s)

theorem inward_withdrawRequest (p : Pos) (id : Byte) (s : State) : SameInward q s (withdrawRequest p id s).1 := by
  unfold withdrawRequest
  refine SameInward.iteFst (.refl s) (SameInward.iteFst (.refl s) ?_)
  split
  · exact .refl s
  · refine SameInward.iteFst (.refl s) (SameInward.iteFst (.refl s) ?_)
    exact inward_accept _ (((inward_withdraw _ _ s).trans (frame_markSkipped _ _).inward).trans (inward_tally _))

theorem inward_shiftZone (p : Pos) (z : Byte) (o : BitVec 16) (i : BitVec 40) (s : State) :
    SameInward q s (shiftZone p z o i s).1 := by
  unfold shiftZone
  dsimp only
  refine SameInward.iteFst (.refl s) (SameInward.iteFst (.refl s) ?_)
  split
  · exact .refl s
  · refine SameInward.iteFst (.refl s) (SameInward.iteFst (.refl s) ?_)
    refine inward_accept _ (SameInward.trans ?_ (inward_tally _))
    refine SameInward.trans ?_ (frame_place _ _ _ _ _ _).inward
    split
    · exact (inward_withdraw _ _ s).trans (frame_markSkipped _ _).inward
    · exact .refl s

theorem inward_cancelRehearsal (s : State) : SameInward q s s.cancelRehearsal := by
  have noted (a b : Nat) (u : State) : SameInward q u (u.noteResult a b true) := by
    unfold State.noteResult
    split
    · exact inward_notify _ _ _
    · exact .refl u
  have ended (r : Rehearsal) (u : State) : SameInward q u { u with rehearsal := r } := rfl
  unfold State.cancelRehearsal
  refine SameInward.ite ?_ (.refl s)
  unfold State.endRehearsal
  dsimp only
  exact ((inward_clearBoards _ s).trans (noted _ _ _)).trans (ended _ _)

theorem inward_rehearsalCancel (p : Pos) (s : State) : SameInward q s (rehearsalCancel p s).1 :=
  SameInward.iteFst (.refl s) (SameInward.iteFst (.refl s) (inward_accept _ (inward_cancelRehearsal s)))

/-- R165: a request touches the boards alone of the lanes; it is its answer that a lane then owes. -/
theorem inward_perform (leaving : Bool) (p : Pos) (r : Request) (s : State) : SameInward q s (perform leaving p r s).1 := by
  cases r with
  | announce o d k i => exact inward_announce leaving p o d k i s
  | setTime x => exact (frame_setTime' p x s).inward
  | setOffset v => exact inward_setOffset p v s
  | confirm id => exact inward_confirm p id s
  | withdraw id => exact inward_withdrawRequest p id s
  | shiftZone z o i => exact inward_shiftZone p z o i s
  | configure k v => exact (frame_configure p k v s).inward
  | setPosition r m z => exact (frame_setPosition p r m z s).inward
  | muteSource x o a => exact inward_muteSource p x o _ s
  | clearScale => exact (frame_clearScale p s).inward
  | rulesetStart l u n => exact (frame_rulesetStart p l u n s).inward
  | rulesetData b => exact (frame_rulesetData p b s).inward
  | rulesetFinish => exact (frame_rulesetFinish p s).inward
  | rulesetAbandon => exact (frame_rulesetAbandon p s).inward
  | rehearse n => exact (frame_rehearse p n s).inward
  | rehearsalCancel => exact inward_rehearsalCancel p s
  | query k i => exact (frame_query k i s).inward

/-- R165, R166: the lane of the sender of a request owes its answer. -/
theorem inward_takeRequest_self (leaving : Bool) (r : Request) (s : State) : ((s.takeRequest leaving q r).lane q).inward =
    ((s.lane q).owe (r.response (perform leaving q r s).2)).inward := by
  have kept : SameInward q s (perform leaving q r s).1 := inward_perform leaving q r s
  unfold SameInward at kept
  obtain ⟨take, -, -, -⟩ := inward_iff.mp kept
  unfold State.takeRequest
  rw [lane_owe, if_pos rfl, inward_iff]
  exact ⟨take, rfl, rfl, rfl⟩

theorem inward_takeRequest_of_ne {p : Pos} (other : p ≠ q) (leaving : Bool) (r : Request) (s : State) :
    SameInward q s (s.takeRequest leaving p r) :=
  (inward_perform leaving p r s).trans (inward_setLane_of_ne _ other _)

theorem inward_takeRequests {l : List Arrived} (others : ∀ a ∈ l, a.1 ≠ q) (leaving : List Pos) (s : State) :
    SameInward q s (s.takeRequests leaving l) :=
  SameInward.foldl (fun s a ha => SameInward.ite (inward_takeRequest_of_ne (others a ha) _ _ s) (.refl s)) s

/-! ### The frame's end -/

theorem inward_leave {p : Pos} (other : p ≠ q) (s : State) : SameInward q s (s.leave p) :=
  ((inward_setLane_of_ne _ other s).trans (inward_departSources p _)).trans (frame_departLoader p _).inward

theorem inward_arbitrate (s : State) : SameInward q s s.arbitrate := by
  unfold State.arbitrate
  dsimp only
  exact SameInward.ite (frame_setTime _ s).inward ((frame_setTime _ s).inward.trans (inward_notify _ _ _))

theorem inward_timeOutLoad (s : State) : SameInward q s s.timeOutLoad := by
  unfold State.timeOutLoad
  split
  · exact (frame_idleLoader s).inward.trans (inward_notify _ _ _)
  · exact (frame_idleLoader s).inward

theorem inward_frameEvents {segs : List (BitVec 48)} {v before : State} (stays : q ∉ v.gone segs) :
    SameInward q v (v.frameEvents segs before) := by
  have parted : SameInward q v (v.parted segs before) := by
    unfold State.parted
    rw [departures_eq]
    have left : SameInward q v ((v.gone segs).foldl State.leave (v.seated segs)) :=
      (frame_setRoster _ v).inward.trans (SameInward.foldl (fun s p hp => inward_leave (by rintro rfl; exact stays hp) s) _)
    exact SameInward.ite (left.trans (inward_tally _)) left
  have roster : SameInward q v (v.frameRoster segs before) := by
    rw [frameRoster_eq]
    exact parted.trans (SameInward.foldl (fun s _ _ => inward_notify _ _ s) _)
  unfold State.frameEvents
  exact (((roster.trans (frame_setTime _ _).inward).trans (inward_arbitrate _)).trans (frame_frameRehearsal _).inward).trans
    (SameInward.ite (inward_timeOutLoad _) (.refl _))

theorem inward_arbiter (p : Pos) (s : State) : SameInward q s (s.arbiter p) := by
  have sent (l : Lane) (b : List Byte) (w : Carried) (h : l.inward = (s.lane p).inward) : SameInward q s (s.setLane p (l.send b w)) := by
    unfold SameInward
    rw [State.setLane_lane]
    split
    · next e => subst e; exact h
    · rfl
  unfold State.arbiter
  refine SameInward.ite ?_ (.refl s)
  split
  · exact SameInward.ite (sent _ _ _ rfl) (.refl s)
  · split
    · refine SameInward.ite ?_ (.refl s)
      unfold State.sendNotice
      have placed (x : Position) (u : State) : SameInward q u (u.setPos p x) := rfl
      exact SameInward.ite ((sent _ _ _ (by rfl)).trans (placed _ _)) (sent _ _ _ (by rfl))
    · exact .refl s

/-- R148: unless the quiet frames begin, the lanes carry over what they have taken in. -/
theorem inward_openFrame (s : State) (loud : s.time.due = .nothing → s.time.frame ≠ 980) : SameInward q s s.openFrame := by
  unfold State.openFrame
  split
  · next due =>
    rw [if_neg (show s.time.frame ≠ Config.quietFrame from loud due)]
    have begun : SameInward q s s.finish.arbiters :=
      (inward_finish s).trans (SameInward.foldl (fun s p _ => inward_arbiter p s) _)
    have latched (u : State) : SameInward q u u.latch := rfl
    exact (begun.trans (inward_finish _)).trans (latched _)
  · exact inward_finish s

end

end Sys2Proof.Machine

namespace Sys2Proof.Machine

set_option Elab.async false

/-! ### What a lane takes in at a frame's end (R160) -/

section
variable {s t u w : State} {p q : Pos} {segs : List (BitVec 48)} {order : FrameOrder}

/-- Two outcomes of a byte alike in the inward direction. -/
def SameArrival (x y : Lane × Arrival) : Prop := x.1.inward = y.1.inward ∧ x.2 = y.2

theorem inward_form {l m : Lane} (h : m.inward = l.inward) (bytes : List Byte) (last : Bool) :
    SameArrival (m.form bytes last) (l.form bytes last) := by
  obtain ⟨take, -, -, owed⟩ := inward_iff.mp h
  unfold Lane.form SameArrival
  dsimp only
  repeat' split
  all_goals exact ⟨inward_iff.mpr ⟨take, rfl, rfl, by simp [Lane.owe, owed]⟩, rfl⟩

theorem inward_takeByte {l m : Lane} (h : m.inward = l.inward) (b : Byte) (last : Bool) :
    SameArrival (m.takeByte b last) (l.takeByte b last) := by
  obtain ⟨take, inbound, buffer, owed⟩ := inward_iff.mp h
  unfold Lane.takeByte
  rw [inbound, buffer]
  split
  · exact inward_form h _ _
  · exact inward_form h _ _
  · split
    · exact ⟨inward_iff.mpr ⟨take, rfl, rfl, rfl⟩, rfl⟩
    · exact ⟨h, rfl⟩
  · exact ⟨h, rfl⟩

theorem inward_hear {l m : Lane} (h : m.inward = l.inward) (f : Nat) (b : Byte) (last offer : Bool) :
    SameArrival (m.hear f b last offer) (l.hear f b last offer) := by
  obtain ⟨take, inbound, buffer, owed⟩ := inward_iff.mp h
  have byte : SameArrival (({ m with take := offer } : Lane).takeByte b last) (({ l with take := offer } : Lane).takeByte b last) :=
    inward_takeByte (l := { l with take := offer }) (m := { m with take := offer })
      (inward_iff.mpr ⟨rfl, inbound, buffer, owed⟩) b last
  rw [inbound] at byte
  unfold Lane.hear
  rw [take, inbound]
  split
  · exact ⟨h, rfl⟩
  · split
    · exact ⟨h, rfl⟩
    · split
      · exact byte
      · exact ⟨h, rfl⟩
    · exact byte

/-- A byte is taken off the lane that stands, whatever its take toggle. -/
theorem takeByte_toggled (l : Lane) (take : Bool) (b : Byte) (last : Bool) :
    (({ l with take := take } : Lane).takeByte b last) =
      ({ (l.takeByte b last).1 with take := take }, (l.takeByte b last).2) := by
  have form (l : Lane) (bytes : List Byte) : ({ l with take := take } : Lane).form bytes last =
      ({ (l.form bytes last).1 with take := take }, (l.form bytes last).2) := by
    unfold Lane.form
    dsimp only
    repeat' split
    all_goals rfl
  obtain ⟨inbound, was, buffer, owed, sending, out, card, board⟩ := l
  unfold Lane.takeByte
  cases inbound with
  | opened => exact form ⟨.opened, was, buffer, owed, sending, out, card, board⟩ _
  | receiving => exact form ⟨.receiving, was, buffer, owed, sending, out, card, board⟩ _
  | draining => cases last <;> rfl
  | held => rfl

/-- R160: no byte is taken where none is on offer, where the lane is HELD, and where it is OPEN after frame 948. -/
theorem hear_idle {f : Nat} {b : Byte} {last offer : Bool} {l : Lane}
    (idle : offer = l.take ∨ l.inbound = .held ∨ l.inbound = .opened ∧ 948 < f) : l.hear f b last offer = (l, none) := by
  unfold Lane.hear
  split
  · rfl
  · next offered =>
    rcases idle with same | held | ⟨opened, late⟩
    · exact absurd same offered
    · rw [held]
    · rw [opened]
      exact if_neg (Nat.not_le.mpr late)

/-- R160: a byte on offer is taken. -/
theorem hear_byte {f : Nat} {b : Byte} {last offer : Bool} {l : Lane} (offered : offer ≠ l.take) (listens : l.inbound ≠ .held)
    (early : l.inbound = .opened → f ≤ 948) :
    l.hear f b last offer = ({ (l.takeByte b last).1 with take := offer }, (l.takeByte b last).2) := by
  unfold Lane.hear
  rw [if_neg offered, takeByte_toggled]
  cases h : l.inbound with
  | opened => exact if_pos (early h)
  | receiving => rfl
  | draining => rfl
  | held => exact absurd h listens

theorem answer_idle {l : Lane} (idle : l.sending = none) (take : Bool) : l.answer take = { l with cardTake := take } := by
  unfold Lane.answer
  dsimp only
  rw [idle]

/-- R160: what the lane of an occupied position hears, in a frame before the quiet ones. -/
def State.hearing (segs : List (BitVec 48)) (p : Pos) (s : State) : Lane × Arrival :=
  laneFrame s.time.frame (s.occupied p) (segmentOf segs p) (s.lane p)

theorem lane_hearLanes (segs : List (BitVec 48)) (s : State) (p : Pos) : (s.hearLanes segs).lane p = (s.hearing segs p).1 :=
  Tab.get_build _ _

theorem mem_arrivals {a : Pos × Byte × List Byte} :
    a ∈ s.arrivals segs ↔ (s.hearing segs a.1).2 = some a.2 := by
  obtain ⟨p, b⟩ := a
  constructor
  · intro h
    obtain ⟨q, -, hq⟩ := List.mem_filterMap.mp h
    obtain ⟨c, hc, e⟩ := Option.map_eq_some_iff.mp hq
    cases e
    exact hc
  · exact fun h => List.mem_filterMap.mpr ⟨p, mem_allPos p, Option.map_eq_some_iff.mpr ⟨b, h, rfl⟩⟩

theorem mem_requestsOf {l : List (Pos × Byte × List Byte)} {a : Arrived} : a ∈ requestsOf l ↔
    ∃ kind payload, (a.1, kind, payload) ∈ l ∧ Request.parse kind payload = .ok a.2 := by
  unfold requestsOf
  rw [List.mem_filterMap]
  constructor
  · rintro ⟨⟨q, kind, payload⟩, mem, h⟩
    dsimp only at h
    split at h
    · next r parsed =>
      cases h
      exact ⟨kind, payload, mem, parsed⟩
    · cases h
  · rintro ⟨kind, payload, mem, parsed⟩
    refine ⟨_, mem, ?_⟩
    dsimp only
    rw [parsed]

/-- The lane of an occupied position that sends nothing, at the end of a frame before the quiet ones, but for what the card has
taken. -/
theorem hearing_eq (occupied : s.occupied p = true) (frame : s.time.frame < 980) (idle : (s.lane p).sending = none) :
    SameArrival (s.hearing segs p) ((s.lane p).hear s.time.frame (segmentOf segs p).laneByte (segmentOf segs p).last
      (segmentOf segs p).offer) := by
  have loud : s.time.frame < Config.quietFrame := frame
  unfold State.hearing laneFrame
  rw [occupied, decide_eq_true loud, answer_idle idle]
  exact inward_hear (by rfl) _ _ _ _

/-! ### Parcels answered (R165) -/

theorem take_owe (r : Response) (l : Lane) : (l.owe r).take = l.take := rfl

theorem owe_inward {l m : Lane} (take : m.take = l.take) (r : Response) : (m.owe r).inward = (l.owe r).inward :=
  inward_iff.mpr ⟨take, rfl, rfl, rfl⟩

/-- R165: a parcel that is no request is answered on its own lane. -/
def State.answerForm (s : State) (a : Pos × Byte × List Byte) : State :=
  match Request.parse a.2.1 a.2.2 with
  | .ok _ => s
  | .error c => s.owe a.1 (formResponse a.2.1 c)

theorem answerForms_eq (l : List (Pos × Byte × List Byte)) (s : State) : s.answerForms l = l.foldl State.answerForm s := rfl

theorem inward_answerForm {a : Pos × Byte × List Byte} (apart : a.1 = q → ∃ r, Request.parse a.2.1 a.2.2 = .ok r) (s : State) :
    SameInward q s (s.answerForm a) := by
  unfold State.answerForm
  split
  · exact .refl s
  · next c refused =>
    refine inward_setLane_of_ne _ (fun e => ?_) s
    obtain ⟨r, ok⟩ := apart e
    rw [ok] at refused
    cases refused

theorem inward_answerForms {l : List (Pos × Byte × List Byte)}
    (apart : ∀ a ∈ l, a.1 = q → ∃ r, Request.parse a.2.1 a.2.2 = .ok r) (s : State) : SameInward q s (s.answerForms l) :=
  SameInward.foldl (f := State.answerForm) (fun s a ha => inward_answerForm (apart a ha) s) s

/-- R165: a malformed parcel, or one of unknown kind, is what its lane owes for. -/
theorem owes_answerForms {l : List (Pos × Byte × List Byte)} {kind : Byte} {payload : List Byte} {c : Code}
    (mem : (q, kind, payload) ∈ l) (alone : ∀ a ∈ l, a.1 = q → a.2 = (kind, payload))
    (refused : Request.parse kind payload = .error c) (s : State) :
    ((s.answerForms l).lane q).inward = ((s.lane q).owe (formResponse kind c)).inward := by
  rw [answerForms_eq]
  induction l generalizing s with
  | nil => cases mem
  | cons a l ih =>
    have rest := fun b hb => alone b (List.mem_cons_of_mem a hb)
    have first : a.1 = q → s.answerForm a = s.owe q (formResponse kind c) := by
      intro e
      have own := alone a (List.mem_cons_self ..) e
      unfold State.answerForm
      rw [own, refused, e]
    rw [List.foldl_cons]
    by_cases more : (q, kind, payload) ∈ l
    · rw [ih more rest]
      refine owe_inward ?_ _
      by_cases e : a.1 = q
      · rw [first e, lane_owe, if_pos rfl, take_owe]
      · exact (inward_iff.mp (inward_answerForm (fun h => absurd h e) s)).1
    · have e : a.1 = q := by
        rcases List.mem_cons.mp mem with rfl | mem
        · rfl
        · exact absurd mem more
      have later : SameInward q (s.answerForm a) (l.foldl State.answerForm (s.answerForm a)) := by
        refine inward_answerForms (fun b hb h => ?_) _
        refine absurd ?_ more
        rw [← rest b hb h, ← h]
        exact hb
      rw [later, first e, lane_owe, if_pos rfl]

/-! ### Requests answered (R165) -/

theorem take_takeRequest (leaving : Bool) (p : Pos) (r : Request) (s : State) :
    ((s.takeRequest leaving p r).lane q).take = (s.lane q).take := by
  by_cases e : p = q
  · subst e
    exact (inward_iff.mp (inward_takeRequest_self (q := p) leaving r s)).1.trans rfl
  · exact (inward_iff.mp (inward_takeRequest_of_ne e leaving r s)).1

/-- R165: of the requests of a frame, that of position `q` is what its lane owes for: the reply it gets when its turn comes. -/
theorem owes_takeRequests {l : List Arrived} {r : Request} (mem : (q, r) ∈ l) (alone : ∀ a ∈ l, a.1 = q → a.2 = r)
    (leaving : List Pos) (occupied : s.occupied q = true) : ∃ before after, l = before ++ after ∧
      ((s.takeRequests leaving l).lane q).inward = ((s.lane q).owe (r.response
        (perform (leaving.contains q) q r (s.takeRequests leaving before)).2)).inward := by
  induction l generalizing s with
  | nil => cases mem
  | cons a l ih =>
    have rest := fun b hb => alone b (List.mem_cons_of_mem a hb)
    obtain ⟨one, hone⟩ : ∃ one, one = s.takeRequests leaving [a] := ⟨_, rfl⟩
    have split (m : List Arrived) : s.takeRequests leaving (a :: m) = one.takeRequests leaving m := by
      rw [hone, ← takeRequests_append]
      rfl
    by_cases more : (q, r) ∈ l
    · have seat : one.occupied q = true := by
        rw [hone, (upholds_takeRequests leaving [a] s).occupied]
        exact occupied
      obtain ⟨before, after, rfl, owes⟩ := ih more rest seat
      refine ⟨a :: before, after, rfl, ?_⟩
      rw [split, split, owes]
      refine owe_inward ?_ _
      rw [hone]
      show ((if s.occupied a.1 then s.takeRequest (leaving.contains a.1) a.1 a.2 else s).lane q).take = _
      split
      · exact take_takeRequest _ _ _ _
      · rfl
    · refine ⟨[], a :: l, rfl, ?_⟩
      have e : a = (q, r) := by
        rcases List.mem_cons.mp mem with rfl | mem
        · rfl
        · exact absurd mem more
      have later : SameInward q one (one.takeRequests leaving l) := by
        refine inward_takeRequests (fun b hb h => ?_) leaving _
        refine absurd ?_ more
        rw [← rest b hb h, ← h]
        exact hb
      have taken : one = s.takeRequest (leaving.contains q) q r := by
        rw [hone, e]
        exact if_pos occupied
      rw [split, later, taken]
      exact inward_takeRequest_self _ r s

end

end Sys2Proof.Machine

namespace Sys2Proof.Machine

set_option Elab.async false

/-! ### What a QUERY reads (R170) -/

section
variable {s t u v w : State} {p q : Pos} {segs : List (BitVec 48)} {order : FrameOrder} {realign : Bool}

/-- R114: a position without its offer cursor, which no subject shows. -/
def Position.uncursored (x : Position) : Position := { x with cursor := none }

/-- R170: what the subjects of a QUERY show: neither the frame's count, nor lanes, load and store, nor what the frame shows. -/
def State.asked (s : State) : State :=
  { s with
    time := { s.time with frame := 0, busClock := 0, due := .nothing }
    roster := s.roster.map Position.uncursored
    loader := .initial, lanes := .fill 12 .initial, store := { copy := .initial, good := true }, bus := .initial, moment := 0 }

theorem content_asked (s : State) (k : Byte) (i : Nat) : content s.asked k i = content s k i := by
  have position : queryPosition s.asked i = queryPosition s i := by
    unfold queryPosition State.asked State.pos
    split
    · simp only [Tab.get_map]
      rfl
    · rfl
  unfold content
  rw [position]
  rfl

/-- A QUERY is answered alike. -/
def SameAnswers (s t : State) : Prop := t.asked = s.asked

theorem SameAnswers.content (h : SameAnswers s t) (k : Byte) (i : Nat) : content t k i = content s k i := by
  rw [← content_asked, ← content_asked s, show t.asked = s.asked from h]

theorem SameAnswers.trans (h : SameAnswers s t) (k : SameAnswers t u) : SameAnswers s u := Eq.trans k h

theorem Unchanged.answers (h : Unchanged [.loader, .lanes, .store, .bus, .moment] s t) : SameAnswers s t := by
  have time : t.time = s.time := h .time (by decide)
  have roster : t.roster = s.roster := h .roster (by decide)
  unfold SameAnswers State.asked
  rw [time, roster, show t.pins = s.pins from h .pins (by decide), show t.labels = s.labels from h .labels (by decide),
    show t.sources = s.sources from h .sources (by decide), show t.sched = s.sched from h .sched (by decide),
    show t.scale = s.scale from h .scale (by decide), show t.rehearsal = s.rehearsal from h .rehearsal (by decide),
    show t.zones = s.zones from h .zones (by decide), show t.rules = s.rules from h .rules (by decide),
    show t.settings = s.settings from h .settings (by decide), show t.pending = s.pending from h .pending (by decide)]

theorem answers_advance (realign : Bool) (s : State) : SameAnswers s (s.setTime (s.time.advanceFrame realign)) := by
  have base : ({ s.time.advanceFrame realign with frame := 0, busClock := 0, due := .nothing } : TimeBase) =
      { s.time with frame := 0, busClock := 0, due := .nothing } := by
    unfold TimeBase.advanceFrame
    split
    · rfl
    · split <;> rfl
  unfold SameAnswers State.asked
  show State.mk _ _ _ _ _ _ _ _ _ _ _ _ _ _ _ _ _ = _
  exact congrArg (fun b : TimeBase => { s.asked with time := b }) base

theorem answers_cursor (p : Pos) (c : Option (Option Byte × BitVec 16)) (s : State) :
    SameAnswers s (s.setPos p { s.pos p with cursor := c }) := by
  have roster : (s.roster.put p { s.pos p with cursor := c }).map Position.uncursored = s.roster.map Position.uncursored := by
    refine Tab.ext_get fun q => ?_
    rw [Tab.get_map, Tab.get_map, Tab.get_put]
    split
    · next e => subst e; rfl
    · rfl
  exact congrArg (fun r : Tab Position 12 => { s.asked with roster := r }) roster

theorem answers_arbiter (p : Pos) (s : State) : SameAnswers s (s.arbiter p) := by
  have lane (l : Lane) : SameAnswers s (s.setLane p l) := (frame_setLane p l s).mono.answers
  unfold State.arbiter
  split
  · split
    · split
      · exact lane _
      · rfl
    · split
      · dsimp only
        split
        · unfold State.sendNotice
          dsimp only
          split
          · exact SameAnswers.trans (lane _) (answers_cursor p _ (s.setLane p _))
          · exact lane _
        · rfl
      · rfl
  · rfl

theorem answers_openFrame (s : State) (loud : s.time.due = .nothing → s.time.frame ≠ 980) : SameAnswers s s.openFrame := by
  have finish (u : State) : SameAnswers u u.finish := (frame_finish u).mono.answers
  have arbiters (l : List Pos) (u : State) : SameAnswers u (l.foldl (fun s p => s.arbiter p) u) := by
    induction l generalizing u with
    | nil => rfl
    | cons p l ih => exact (answers_arbiter p u).trans (ih _)
  unfold State.openFrame
  split
  · next due =>
    rw [if_neg (show s.time.frame ≠ Config.quietFrame from loud due)]
    exact (((finish s).trans (arbiters _ _)).trans (finish _)).trans (frame_latch _).mono.answers
  · exact finish s

/-! ### The frame's count (R1) -/

theorem frame_of_takeRequest (leaving : Bool) (p : Pos) (r : Request) (s : State) :
    (s.takeRequest leaving p r).time.frame = s.time.frame := by
  have same {but : List Block} {t : State} (h : Unchanged but s t) (hb : Block.time ∉ but := by decide) :
      t.time.frame = s.time.frame := congrArg TimeBase.frame (h .time hb)
  have owed (u : State) (x : Response) : (u.owe p x).time = u.time := rfl
  unfold State.takeRequest
  rw [owed]
  cases r with
  | announce o d k i => exact same (frame_announce leaving p o d k i s)
  | setTime x =>
    show (setTime p x s).1.time.frame = _
    unfold setTime
    dsimp only
    repeat' split
    all_goals rfl
  | setOffset v => exact same (frame_setOffset p v s)
  | confirm id => exact same (frame_confirm p id s)
  | withdraw id => exact same (frame_withdrawRequest p id s)
  | shiftZone z o i => exact same (frame_shiftZone p z o i s)
  | configure k v => exact same (frame_configure p k v s)
  | setPosition r m z => exact same (frame_setPosition p r m z s)
  | muteSource x o a => exact same (frame_muteSource p x o _ s)
  | clearScale => exact same (frame_clearScale p s)
  | rulesetStart l u n => exact same (frame_rulesetStart p l u n s)
  | rulesetData b => exact same (frame_rulesetData p b s)
  | rulesetFinish => exact same (frame_rulesetFinish p s)
  | rulesetAbandon => exact same (frame_rulesetAbandon p s)
  | rehearse n => exact same (frame_rehearse p n s)
  | rehearsalCancel => exact same (frame_rehearsalCancel p s)
  | query k i => exact same (frame_query k i s)

theorem frame_of_takeRequests (leaving : List Pos) (l : List Arrived) (s : State) :
    (s.takeRequests leaving l).time.frame = s.time.frame := by
  unfold State.takeRequests
  induction l generalizing s with
  | nil => rfl
  | cons a l ih =>
    rw [List.foldl_cons, ih]
    split
    · exact frame_of_takeRequest _ _ _ _
    · rfl

theorem frame_of_frameEvents (segs : List (BitVec 48)) (v before : State) :
    (v.frameEvents segs before).time.frame = v.time.frame := by
  have roster : (v.frameRoster segs before).time = v.time := frame_frameRoster segs v before .time (by decide)
  have marks (u : State) : (u.frameMarks segs before).time.frame = u.time.frame := rfl
  have arbitrate (u : State) : u.arbitrate.time.frame = u.time.frame := by
    unfold State.arbitrate
    dsimp only
    split <;> rfl
  unfold State.frameEvents
  rw [congrArg TimeBase.frame (frame_expireLoader _ .time (by decide)),
    congrArg TimeBase.frame (frame_frameRehearsal _ .time (by decide)), arbitrate, marks, roster]

theorem frame_of_rostered (segs : List (BitVec 48)) (order : FrameOrder) (s : State) :
    (s.rostered segs order).time.frame = s.time.frame := by
  unfold State.rostered State.readied
  rw [frame_of_frameEvents, frame_of_takeRequests, congrArg TimeBase.frame (frame_heard segs s .time (by decide))]

/-- R157: after a frame before 979 the quiet frames are not reached. -/
theorem loud_advance {b : TimeBase} (early : b.frame < 979) (realign : Bool) :
    (b.advanceFrame realign).due = .nothing → (b.advanceFrame realign).frame ≠ 980 := by
  unfold TimeBase.advanceFrame
  split
  · exact fun h => by cases h
  · rw [if_pos (by have : Config.framesPerSecond = 1000 := rfl; omega)]
    intro _
    show b.frame + 1 ≠ 980
    omega

/-- What the frame has left, when the next one has begun. -/
def State.opened (realign : Bool) (s : State) : State :=
  (s.settleLoader.setTime (s.settleLoader.time.advanceFrame realign)).openFrame

theorem upholds_opened (realign : Bool) (s : State) : Upholds s (s.opened realign) :=
  ((upholds_settleLoader s).trans (upholds_advanceFrame realign _)).trans (upholds_openFrame _)

theorem inward_opened (early : s.time.frame < 979) (realign : Bool) : SameInward q s (s.opened realign) :=
  ((frame_settleLoader s).inward.trans (frame_setTime _ _).inward).trans
    (inward_openFrame _ (loud_advance (b := s.settleLoader.time) early realign))

theorem answers_opened (early : s.time.frame < 979) (realign : Bool) : SameAnswers s (s.opened realign) :=
  ((frame_settleLoader s).mono.answers.trans (answers_advance realign _)).trans
    (answers_openFrame _ (loud_advance (b := s.settleLoader.time) early realign))

end

end Sys2Proof.Machine

namespace Sys2Proof.Machine

set_option Elab.async false

/-! ### What the lane of a position takes in and owes at a frame's end (R160, R165, R170) -/

section
variable {s t w : State} {p : Pos} {segs : List (BitVec 48)} {order : FrameOrder} {realign : Bool} {r : Request}
variable {kind : Byte} {payload : List Byte} {c : Code}

/-- What the frame has done when the next one is about to begin. -/
def State.judgedAll (segs : List (BitVec 48)) (order : FrameOrder) (s : State) : State :=
  (s.rostered segs order).takeRequests [] (s.lateRequests segs order)

theorem frameEnd_opened (segs : List (BitVec 48)) (order : FrameOrder) (running : s.running = true) (due : s.time.due = .nothing) :
    ∃ realign, exec (.frameEnd segs order) s = .next ((s.nextMoment.judgedAll segs order).opened realign) := by
  obtain ⟨realign, u, hu, run⟩ := frameEnd_eq (s := s) segs order running due
  subst hu
  exact ⟨realign, run⟩

theorem frame_of_judgedAll (segs : List (BitVec 48)) (order : FrameOrder) (s : State) :
    (s.judgedAll segs order).time.frame = s.time.frame := by
  unfold State.judgedAll
  rw [frame_of_takeRequests, frame_of_rostered]

theorem upholds_judgedAll (segs : List (BitVec 48)) (order : FrameOrder) (s : State) :
    Upholds (s.rostered segs order) (s.judgedAll segs order) := upholds_takeRequests _ _ _

/-- A position that is not EMPTY after the frame has not departed in it. -/
theorem stays_of_upholds (h : Upholds (s.rostered segs order) t) (seat : t.occupied p = true) :
    p ∉ (s.readied segs order).gone segs := by
  intro gone
  have pos : (s.rostered segs order).pos p = ((s.readied segs order).frameAt segs p).1 := pos_frameEvents segs _ _ p
  rw [h.occupied] at seat
  unfold State.occupied at seat
  rw [pos, empty_of_gone gone] at seat
  cases seat

theorem mem_order {order : FrameOrder} {a : Arrived} :
    a ∈ requestOrder order.lanes (requestsOf (s.arrivals segs)) ↔ a ∈ requestsOf (s.arrivals segs) :=
  (requestOrder_perm _ _).mem_iff

theorem mem_prompts {a : Arrived} : a ∈ s.prompts segs order ↔
    a ∈ requestsOf (s.arrivals segs) ∧ a.2.isMute = false ∧ a.2.isQuery = false := by
  unfold State.prompts
  rw [List.mem_filter, mem_order]
  simp

/-- Of a position at most one request is completed in a frame. -/
theorem request_unique {a : Arrived} (mine : (p, r) ∈ requestsOf (s.arrivals segs)) (mem : a ∈ requestsOf (s.arrivals segs))
    (same : a.1 = p) : a.2 = r := by
  obtain ⟨kind, payload, arrived, parsed⟩ := mem_requestsOf.mp mine
  obtain ⟨kind', payload', arrived', parsed'⟩ := mem_requestsOf.mp mem
  have first := mem_arrivals.mp arrived
  have second := mem_arrivals.mp arrived'
  dsimp only at first second
  rw [same, first] at second
  cases second
  rw [parsed] at parsed'
  cases parsed'
  rfl

/-- Where the frame completes no request of position `p`, its lane is left as heard. -/
theorem inward_judgedAll_of_none (stays : p ∉ (s.readied segs order).gone segs)
    (none : ∀ a ∈ requestsOf (s.arrivals segs), a.1 ≠ p) : SameInward p (s.heard segs) (s.judgedAll segs order) := by
  have early : SameInward p (s.heard segs) (s.readied segs order) := by
    refine inward_takeRequests (fun a ha => ?_) _ _
    split at ha
    · exact none a (mem_prompts.mp ha).1
    · cases ha
  exact (early.trans (inward_frameEvents stays)).trans (inward_takeRequests (fun a ha => none a (mem_lateRequests ha)) _ _)

theorem isMute_of_query (h : r.isQuery = true) : r.isMute = false := by
  cases r with
  | query k i => rfl
  | _ => cases h

/-- R170: the QUERYs of a frame come last. -/
theorem lateRequests_split : ∃ front asked, s.lateRequests segs order = front ++ asked ∧ (∀ a ∈ asked, a.2.isQuery = true) ∧
    (∀ a ∈ front, a.2.isQuery = false) ∧ ∀ a ∈ requestsOf (s.arrivals segs), a.2.isQuery = true → a ∈ asked := by
  refine ⟨_, _, (List.append_assoc ..).symm, fun a h => (List.mem_filter.mp h).2, fun a h => ?_,
    fun a h asks => List.mem_filter.mpr ⟨mem_order.mpr h, asks⟩⟩
  rcases List.mem_append.mp h with h | h
  · split at h
    · cases h
    · exact (mem_prompts.mp h).2.2
  · have mute := (List.mem_filter.mp h).2
    by_contra asks
    rw [isMute_of_query (by simpa using asks)] at mute
    cases mute

theorem unchanged_queries {l : List Arrived} (asks : ∀ a ∈ l, a.2.isQuery = true) (leaving : List Pos) (s : State) :
    Unchanged [.lanes] s (s.takeRequests leaving l) := by
  unfold State.takeRequests
  induction l generalizing s with
  | nil => exact Unchanged.refl _ s
  | cons a l ih =>
    refine Unchanged.trans (Unchanged.ite _ ?_ (Unchanged.refl _ s)) (ih (fun b hb => asks b (List.mem_cons_of_mem _ hb)) _)
    have ask := asks a (List.mem_cons_self ..)
    obtain ⟨q, r⟩ := a
    cases r with
    | query k i => exact (frame_query k i s).mono.trans (frame_owe q _ _)
    | _ => cases ask

/-- R165, R148: a request of the frame is what its sender's lane owes for, as judged in a state `w` of the frame; a MUTE_SOURCE is
judged under the lead the frame leaves (log 36), a QUERY on what it leaves (R170). -/
theorem owes_judgedAll (seat : (s.judgedAll segs order).occupied p = true)
    (mine : (p, r) ∈ requestsOf (s.arrivals segs)) : ∃ w leaving,
      ((s.judgedAll segs order).lane p).inward =
        (((s.heard segs).lane p).owe (r.response (perform leaving p r w).2)).inward ∧
      (r.isMute = true → w.holdsLead p = (s.judgedAll segs order).holdsLead p) ∧
      (r.isQuery = true → SameAnswers w (s.judgedAll segs order)) := by
  have alone {l : List Arrived} (h : ∀ a ∈ l, a ∈ requestsOf (s.arrivals segs)) : ∀ a ∈ l, a.1 = p → a.2 = r :=
    fun a ha same => request_unique mine (h a ha) same
  have none {l : List Arrived} (h : ∀ a ∈ l, a ∈ requestsOf (s.arrivals segs)) (out : (p, r) ∉ l) : ∀ a ∈ l, a.1 ≠ p :=
    fun a ha same => out (by rw [← alone h a ha same, ← same]; exact ha)
  have stays := stays_of_upholds (upholds_judgedAll segs order s) seat
  have rostered : (s.rostered segs order).occupied p = true := ((upholds_judgedAll segs order s).occupied p).symm.trans seat
  obtain ⟨kind, payload, arrived, -⟩ := mem_requestsOf.mp mine
  have heard : (s.heard segs).occupied p = true := ((upholds_heard segs s).occupied p).trans (occupied_of_arrivals arrived)
  have took {v w : State} (h : SameInward p w v) (x : Response) : ((v.lane p).owe x).inward = ((w.lane p).owe x).inward :=
    owe_inward (inward_iff.mp h).1 x
  have late {a : Arrived} (h : a ∈ s.lateRequests segs order) := mem_lateRequests h
  by_cases prompt : order.requestsFirst = true ∧ r.isMute = false ∧ r.isQuery = false
  · -- taken before the Roster
    obtain ⟨first, notMute, notQuery⟩ := prompt
    have mem : (p, r) ∈ s.prompts segs order := mem_prompts.mpr ⟨mine, notMute, notQuery⟩
    obtain ⟨before, -, -, owes⟩ := owes_takeRequests mem (alone fun a h => (mem_prompts.mp h).1)
      (s.withEvent segs .departed) heard
    refine ⟨_, _, Eq.trans ?_ owes, by simp [notMute], by simp [notQuery]⟩
    have out : (p, r) ∉ s.lateRequests segs order := by
      unfold State.lateRequests
      rw [if_pos first]
      simp [notMute, notQuery]
    have readied : s.readied segs order = (s.heard segs).takeRequests (s.withEvent segs .departed) (s.prompts segs order) := by
      unfold State.readied
      rw [if_pos first]
    rw [← readied]
    exact (inward_frameEvents stays).trans (inward_takeRequests (none (fun a h => late h) out) _ _)
  · have early : SameInward p (s.heard segs) (s.rostered segs order) := by
      refine SameInward.trans (inward_takeRequests (none (fun a h => ?_) fun h => ?_) _ _) (inward_frameEvents stays)
      · split at h
        · exact (mem_prompts.mp h).1
        · cases h
      · split at h
        · next first => exact prompt ⟨first, (mem_prompts.mp h).2⟩
        · cases h
    by_cases asks : r.isQuery = true
    · -- a QUERY, taken last
      obtain ⟨front, asked, apart, askedOnly, others, mem⟩ := lateRequests_split (segs := segs) (order := order) (s := s)
      have out : (p, r) ∉ front := fun h => by rw [others _ h] at asks; cases asks
      have fronts : ∀ a ∈ front, a ∈ requestsOf (s.arrivals segs) := fun a h => late (by rw [apart]; exact List.mem_append_left _ h)
      have askeds : ∀ a ∈ asked, a ∈ requestsOf (s.arrivals segs) := fun a h => late (by rw [apart]; exact List.mem_append_right _ h)
      have whole : s.judgedAll segs order = ((s.rostered segs order).takeRequests [] front).takeRequests [] asked := by
        unfold State.judgedAll
        rw [apart, takeRequests_append]
      have there : ((s.rostered segs order).takeRequests [] front).occupied p = true :=
        ((upholds_takeRequests [] front _).occupied p).trans rostered
      have through := inward_takeRequests (q := p) (none fronts out) [] (s.rostered segs order)
      obtain ⟨before, after, cut, owes⟩ := owes_takeRequests (mem _ mine asks) (alone askeds) [] there
      refine ⟨_, _, (congrArg (fun u : State => (u.lane p).inward) whole).trans (owes.trans (took (early.trans through) _)),
        fun mute => ?_, fun _ => ?_⟩
      · rw [isMute_of_query asks] at mute
        cases mute
      · rw [whole]
        have answered {l : List Arrived} (h : ∀ a ∈ l, a ∈ asked) (u : State) : SameAnswers u (u.takeRequests [] l) :=
          (unchanged_queries (fun a ha => askedOnly a (h a ha)) [] u).mono.answers
        have first := answered (l := before) (fun a h => by rw [cut]; exact List.mem_append_left _ h)
          ((s.rostered segs order).takeRequests [] front)
        exact SameAnswers.trans (Eq.symm first) (answered (fun a h => h) _)
    · have mem : (p, r) ∈ s.lateRequests segs order := by
        unfold State.lateRequests
        by_cases mute : r.isMute = true
        · exact List.mem_append_right _ (List.mem_append_left _ (List.mem_filter.mpr ⟨mem_order.mpr mine, mute⟩))
        · refine List.mem_append_left _ ?_
          rw [if_neg fun first => prompt ⟨first, by simpa using mute, by simpa using asks⟩]
          exact mem_prompts.mpr ⟨mine, by simpa using mute, by simpa using asks⟩
      obtain ⟨before, after, -, owes⟩ := owes_takeRequests mem (alone fun a h => late h) [] rostered
      refine ⟨_, _, owes.trans (took early _), fun _ => ?_, fun h => absurd h asks⟩
      unfold State.holdsLead State.judgedAll
      rw [(upholds_takeRequests [] before _).holder, (upholds_takeRequests [] _ _).holder]

end

end Sys2Proof.Machine

namespace Sys2Proof.Machine

set_option Elab.async false

section
variable {s t w : State} {p : Pos} {segs : List (BitVec 48)} {order : FrameOrder} {realign : Bool} {r : Request}
variable {kind : Byte} {payload : List Byte} {c : Code}

theorem parsed_eq_ok {x : Option Request} (h : parsed x = .ok r) : x = some r := by
  cases x with
  | none => cases h
  | some y => cases h; rfl

/-- One row of the table of R185. -/
theorem ok_of_ite {a : Byte} {x : Option Request} {rest : Except Code Request}
    (h : (if kind = a then parsed x else rest) = .ok r) : rest = .ok r ∨ kind = a ∧ x = some r := by
  split at h
  · next e => exact .inr ⟨e, parsed_eq_ok h⟩
  · exact .inl h

/-- R165: what is read as a request has its kind and the length of its payload. -/
theorem kind_of_parse (h : Request.parse kind payload = .ok r) : r.kind = kind ∧ r.payload.length = payload.length := by
  unfold Request.parse at h
  iterate 17
    replace h := ok_of_ite h
    rcases h with h | ⟨rfl, h⟩
  · cases h
  all_goals
    split at h <;> cases h <;> exact ⟨rfl, by simp_all [Request.payload]⟩

/-! ### The frame's end on one lane (R160, R164, R165, R170) -/

theorem lane_tickLoader (s : State) (p : Pos) : s.tickLoader.lane p = s.lane p := by
  unfold State.lane
  rw [show s.tickLoader.lanes = s.lanes from frame_tickLoader s .lanes (by decide)]

/-- R165: a lane that has heard no malformed parcel, and none of unknown kind, is left as its byte leaves it. -/
theorem inward_heard (fine : ∀ kind payload, (s.hearing segs p).2 = some (kind, payload) → ∃ r, Request.parse kind payload = .ok r) :
    ((s.heard segs).lane p).inward = (s.hearing segs p).1.inward := by
  have answered : SameInward p (s.hearLanes segs) ((s.hearLanes segs).answerForms (s.arrivals segs)) := by
    refine inward_answerForms (fun a ha e => ?_) _
    obtain ⟨q, kind, payload⟩ := a
    subst e
    exact fine kind payload (mem_arrivals.mp ha)
  unfold State.heard
  rw [lane_tickLoader, answered, lane_hearLanes]

theorem owes_heard (arrived : (s.hearing segs p).2 = some (kind, payload)) (refused : Request.parse kind payload = .error c) :
    ((s.heard segs).lane p).inward = ((s.hearing segs p).1.owe (formResponse kind c)).inward := by
  have alone : ∀ a ∈ s.arrivals segs, a.1 = p → a.2 = (kind, payload) := by
    rintro ⟨q, a⟩ ha e
    have other := mem_arrivals.mp ha
    dsimp only at e other ⊢
    rw [e, arrived] at other
    cases other
    rfl
  unfold State.heard
  rw [lane_tickLoader, owes_answerForms (mem_arrivals.mpr arrived) alone refused, lane_hearLanes]

/-- Where no request of position `p` is completed, its lane is left as heard. -/
theorem inward_judgedAll_of_quiet (stays : p ∉ (s.readied segs order).gone segs)
    (none : ∀ kind payload r, (s.hearing segs p).2 = some (kind, payload) → Request.parse kind payload ≠ .ok r) :
    SameInward p (s.heard segs) (s.judgedAll segs order) := by
  refine inward_judgedAll_of_none stays fun a ha e => ?_
  obtain ⟨kind, payload, mem, parsed⟩ := mem_requestsOf.mp ha
  exact none kind payload a.2 (e ▸ mem_arrivals.mp mem) parsed

/-- R48: a MUTE_SOURCE of an action that R184 does not name. -/
theorem reply_muteSource_unnamed {q o action : Byte} (leaving : Bool) (unnamed : 2 ≤ action.toNat) (w : State) :
    (perform leaving p (.muteSource q o action) w).2 =
      { code := if w.holdsLead p then .outOfRange else .notPermitted } := by
  have none : muteAction action = none := by
    unfold muteAction
    rw [if_neg (by rintro rfl; exact absurd unnamed (by decide)), if_neg (by rintro rfl; exact absurd unnamed (by decide))]
  show (muteSource p q o (muteAction action) w).2 = _
  rw [none]
  unfold muteSource
  cases w.holdsLead p with
  | false => rfl
  | true =>
    rw [if_neg (by simp)]
    split
    · split
      · contradiction
      · rfl
    · rfl

/-- R170: a QUERY is answered with what its subject holds. -/
theorem reply_query (leaving : Bool) (k i : Byte) (w : State) : (perform leaving p (.query k i) w).2 =
    match content w k i.toNat with
    | .ok b => { code := .accepted, content := i :: b }
    | .error code => { code := code } := by
  show (query k i w).2 = _
  unfold query
  cases content w k i.toNat <;> rfl

/-! ### The lane once the next frame has begun -/

theorem seat_judgedAll (seat : ((s.judgedAll segs order).opened realign).occupied p = true) :
    (s.judgedAll segs order).occupied p = true := ((upholds_opened realign _).occupied p).symm.trans seat

theorem stays_of_seat (seat : ((s.judgedAll segs order).opened realign).occupied p = true) :
    p ∉ (s.readied segs order).gone segs := stays_of_upholds (upholds_judgedAll segs order s) (seat_judgedAll seat)

theorem inward_next (early : s.time.frame < 979) :
    SameInward p (s.judgedAll segs order) ((s.judgedAll segs order).opened realign) :=
  inward_opened (by rw [frame_of_judgedAll]; exact early) realign

section
variable (early : s.time.frame < 979) (seat : ((s.judgedAll segs order).opened realign).occupied p = true)
include early seat

/-- A byte that completes no parcel. -/
theorem lane_of_none (none : (s.hearing segs p).2 = none) :
    (((s.judgedAll segs order).opened realign).lane p).inward = (s.hearing segs p).1.inward := by
  rw [inward_next early, inward_judgedAll_of_quiet (stays_of_seat seat) (by simp [none]),
    inward_heard (by simp [none])]

/-- R165: a byte that completes a parcel of a wrong form, or of no request's kind. -/
theorem lane_of_refused (arrived : (s.hearing segs p).2 = some (kind, payload)) (refused : Request.parse kind payload = .error c) :
    (((s.judgedAll segs order).opened realign).lane p).inward = ((s.hearing segs p).1.owe (formResponse kind c)).inward := by
  have none : ∀ kind payload r, (s.hearing segs p).2 = some (kind, payload) → Request.parse kind payload ≠ .ok r := by
    intro kind' payload' r same
    rw [arrived] at same
    cases same
    rw [refused]
    exact fun h => by cases h
  rw [inward_next early, inward_judgedAll_of_quiet (stays_of_seat seat) none, owes_heard arrived refused]

/-- R165, R170: a byte that completes a request. -/
theorem lane_of_request (arrived : (s.hearing segs p).2 = some (kind, payload)) (parsed : Request.parse kind payload = .ok r) :
    ∃ a, (((s.judgedAll segs order).opened realign).lane p).inward = ((s.hearing segs p).1.owe (r.response a)).inward ∧
      (∀ k i, r = .query k i → a = match content ((s.judgedAll segs order).opened realign) k i.toNat with
        | .ok b => { code := .accepted, content := i :: b }
        | .error code => { code := code }) ∧
      ∀ q o action, r = .muteSource q o action → 2 ≤ action.toNat →
        a = { code := if ((s.judgedAll segs order).opened realign).holdsLead p then .outOfRange else .notPermitted } := by
  have mine : (p, r) ∈ requestsOf (s.arrivals segs) := mem_requestsOf.mpr ⟨kind, payload, mem_arrivals.mpr arrived, parsed⟩
  obtain ⟨w, leaving, owes, muted, asked⟩ := owes_judgedAll (seat_judgedAll seat) mine
  have fine : ∀ kind' payload', (s.hearing segs p).2 = some (kind', payload') → ∃ r, Request.parse kind' payload' = .ok r := by
    intro kind' payload' same
    rw [arrived] at same
    cases same
    exact ⟨r, parsed⟩
  have loud : (s.judgedAll segs order).time.frame < 979 := by rw [frame_of_judgedAll]; exact early
  refine ⟨(perform leaving p r w).2, ?_, ?_, ?_⟩
  · rw [inward_next early, owes]
    exact owe_inward (inward_iff.mp (inward_heard fine)).1 _
  · rintro k i rfl
    have same := ((asked rfl).trans (answers_opened loud realign)).content k i.toNat
    rw [reply_query, same]
  · rintro q o action rfl unnamed
    have lead : ((s.judgedAll segs order).opened realign).holdsLead p = w.holdsLead p := by
      rw [muted rfl]
      unfold State.holdsLead
      rw [(upholds_opened realign _).holder]
    rw [reply_muteSource_unnamed leaving unnamed, lead]

end

end

end Sys2Proof.Machine

namespace Sys2Proof.Machine

set_option Elab.async false

/-! ### Requests are judged alike in states alike (R165) -/

/-- Two outcomes of a request: states alike and the same reply. -/
def Answered (b l : Bool) (x y : State × Reply) : Prop := Alike b l x.1 y.1 ∧ x.2 = y.2

section
variable {b l : Bool} {s t u v : State} {p : Pos}

theorem Answered.refuse (h : Alike b l s t) (c : Code) : Answered b l (refuse s c) (refuse t c) := ⟨h, rfl⟩

theorem Answered.accept (h : Alike b l s t) (bytes : List Byte) : Answered b l (accept s bytes) (accept t bytes) := ⟨h, rfl⟩

theorem Answered.ite {c : Prop} [Decidable c] {w x y z : State × Reply} (h : Answered b l w x) (k : Answered b l y z) :
    Answered b l (if c then w else y) (if c then x else z) := by
  split <;> assumption

theorem Alike.iteSame {c : Prop} [Decidable c] (h : Alike b l s t) (k : Alike b l u v) :
    Alike b l (if c then s else u) (if c then t else v) := by
  split <;> assumption

/-! #### Sources -/

theorem Alike.putSource (h : Alike b l s t) (i : Fin 16) (e : Source) : Alike b l (s.putSource i e) (t.putSource i e) := by
  have rewritten : Alike b l (s.rewritten i e) (t.rewritten i e) := h.map (State.rewritten i e)
  have second : s.time.t = t.time.t := h.read fun s => s.time.t
  have source : s.source i = t.source i := h.read fun s => s.source i
  rw [putSource_eq, putSource_eq, second, source]
  exact Alike.iteSame (rewritten.notifyWhere _ _) rewritten

theorem Alike.prompt (h : Alike b l s t) (i : Fin 16) (e : Source) : Alike b l (s.prompt i e) (t.prompt i e) := by
  have source : s.source i = t.source i := h.read fun s => s.source i
  unfold State.prompt
  rw [source]
  exact Alike.iteSame (h.putSource i e).tally (h.putSource i e)

theorem answered_announce (h : Alike b l s t) (o d k : Byte) (i : Option (BitVec 40)) :
    Answered b l (announce false p o d k i s) (announce false p o d k i t) := by
  have second : s.time.t = t.time.t := h.read fun s => s.time.t
  unfold announce
  rw [second]
  cases originOf o with
  | none => exact .refuse h _
  | some o =>
    refine .ite (.refuse h _) (.ite (.refuse h _) ?_)
    cases announcedView t.time.t d.toNat k (i.map BitVec.toNat) with
    | error c => exact .refuse h c
    | ok v =>
      have entry : (s.entryOf ⟨p, o⟩).or s.roomFor = (t.entryOf ⟨p, o⟩).or t.roomFor :=
        h.read fun s => (s.entryOf ⟨p, o⟩).or s.roomFor
      have persistence : s.value Config.persistence = t.value Config.persistence := h.read fun s => s.value Config.persistence
      unfold takeView
      rw [entry, second, persistence]
      cases (t.entryOf ⟨p, o⟩).or t.roomFor with
      | none => exact .refuse h _
      | some i =>
        have source : s.source i = t.source i := h.read fun s => s.source i
        dsimp only
        rw [source]
        exact .accept (h.prompt i _) _

theorem answered_muteSource (h : Alike b l s t) (q o : Byte) (m : Option Bool) :
    Answered b l (muteSource p q o m s) (muteSource p q o m t) := by
  unfold muteSource
  rw [h.holdsLead p]
  refine .ite (.refuse h _) ?_
  split
  · next range =>
    split
    · next o origin mute _ =>
      have entry : s.entryOf ⟨⟨q.toNat, range⟩, origin⟩ = t.entryOf ⟨⟨q.toNat, range⟩, origin⟩ :=
        h.read fun s => s.entryOf ⟨⟨q.toNat, range⟩, origin⟩
      rw [entry]
      split
      · exact .refuse h _
      · next i _ =>
        have source : s.source i = t.source i := h.read fun s => s.source i
        have limit : s.value Config.stalenessLimit = t.value Config.stalenessLimit := h.read fun s => s.value Config.stalenessLimit
        have unmuted : s.unmuted (t.source i) = t.unmuted (t.source i) := by
          unfold State.unmuted
          rw [limit, show (fun k : SourceKey => !s.occupied k.pos) = fun k => !t.occupied k.pos from
            funext fun k => by rw [h.occupied]]
        dsimp only
        rw [source, unmuted]
        exact .ite (.accept (h.prompt i _) _) (.ite (.accept (h.prompt i _) _) (.accept h _))
    · exact .refuse h _
  · exact .refuse h _

/-! #### Time, schedule and scale -/

/-- R16: a pending value of T. -/
def State.pend (x : Nat) (s : State) : State := s.setTime { s.time with pendingTime := some x }

theorem setTime_eq (x : BitVec 40) (s : State) : setTime p x s =
    if !s.holdsLead p then refuse s .notPermitted
    else if x.toNat < 256 || decide (Config.maxT - 1 < x.toNat) then refuse s .outOfRange
    else match s.time.t with
      | none => accept (s.pend x.toNat)
      | some t => if isRetime t x.toNat && s.retimeBlocked t then refuse s .busy else accept (s.pend x.toNat) := rfl

theorem answered_setTime (h : Alike b l s t) (x : BitVec 40) : Answered b l (setTime p x s) (setTime p x t) := by
  have take : Alike b l (s.pend x.toNat) (t.pend x.toNat) := h.map (State.pend x.toNat)
  have second : s.time.t = t.time.t := h.read fun s => s.time.t
  rw [setTime_eq, setTime_eq, h.holdsLead p, second]
  refine .ite (.refuse h _) (.ite (.refuse h _) ?_)
  cases t.time.t with
  | none => exact .accept take _
  | some n =>
    have blocked : s.retimeBlocked n = t.retimeBlocked n := h.read fun s => s.retimeBlocked n
    dsimp only
    rw [blocked]
    exact .ite (.refuse h _) (.accept take _)

theorem Alike.markSkipped (h : Alike b l s t) (r : Record) : Alike b l (s.markSkipped r) (t.markSkipped r) := by
  refine h.map (State.markSkipped r) fun s => ?_
  unfold State.markSkipped
  split <;> rfl

theorem Alike.replaceBaselines (h : Alike b l s t) (n : Nat) : Alike b l (s.replaceBaselines n) (t.replaceBaselines n) := by
  have records : s.records = t.records := h.read State.records
  unfold State.replaceBaselines
  rw [records]
  refine h.foldl (fun r h => ?_) _
  exact Alike.iteSame (h.withdraw r .replaced) h

theorem Alike.operatorBaseline (h : Alike b l s t) (n : Nat) : Alike b l (s.operatorBaseline n) (t.operatorBaseline n) := by
  have records : s.records = t.records := h.read State.records
  unfold State.operatorBaseline
  dsimp only
  rw [records]
  split
  · exact h.updateRecord _ _
  · exact h.place _ _ _ _ _

theorem answered_placeOffset (h : Alike b l s t) (n : Nat) : Answered b l (placeOffset n s) (placeOffset n t) := by
  have done {u v : State} (h : Alike b l u v) : Answered b l (accept ((u.unlist (.baseline n)).operatorBaseline n).tally)
      (accept ((v.unlist (.baseline n)).operatorBaseline n).tally) :=
    .accept ((Alike.operatorBaseline (h.map (State.unlist (.baseline n))) n).tally) _
  have records : s.records = t.records := h.read State.records
  have yields : (s.yielding fun r => r.change.isLeap) = t.yielding fun r => r.change.isLeap :=
    h.read fun s => s.yielding fun r => r.change.isLeap
  unfold placeOffset
  dsimp only
  rw [records, yields]
  refine .ite (done (h.replaceBaselines n)) ?_
  split
  · exact done ((h.replaceBaselines n).withdraw _ _)
  · exact .refuse h _

theorem Alike.withScale (h : Alike b l s t) (c : Scale) : Alike b l { s with scale := c } { t with scale := c } :=
  h.map fun s => { s with scale := c }

theorem answered_setOffset (h : Alike b l s t) (x : BitVec 16) : Answered b l (setOffset p x s) (setOffset p x t) := by
  have records : s.records = t.records := h.read State.records
  have scale : s.scale = t.scale := h.read State.scale
  unfold setOffset
  dsimp only
  rw [h.holdsLead p, records]
  refine .ite (.refuse h _) (.ite (.refuse h _) (.ite (.refuse h _) ?_))
  rw [scale]
  refine .ite (.ite (.accept (h.withScale _) _) (.accept h _)) ?_
  split
  · exact .accept (h.updateRecord _ _).tally _
  · exact answered_placeOffset h _

theorem answered_confirm (h : Alike b l s t) (id : Byte) : Answered b l (confirm p id s) (confirm p id t) := by
  have scale : s.scale = t.scale := h.read State.scale
  have found : s.findRecord id.toNat = t.findRecord id.toNat := h.read fun s => s.findRecord id.toNat
  unfold confirm
  rw [h.holdsLead p, found, scale]
  refine .ite (.refuse h _) (.ite ?_ ?_)
  · split
    · exact .refuse h _
    · exact .ite (.accept (h.withScale _) _) (.accept h _)
  · split
    · exact .refuse h _
    · exact .ite (.accept (h.updateRecord _ _).tally _) (.refuse h _)

theorem answered_withdrawRequest (h : Alike b l s t) (id : Byte) :
    Answered b l (withdrawRequest p id s) (withdrawRequest p id t) := by
  have found : s.findRecord id.toNat = t.findRecord id.toNat := h.read fun s => s.findRecord id.toNat
  have called : s.isCalled = t.isCalled := h.read State.isCalled
  unfold withdrawRequest
  rw [h.holdsLead p, found, called]
  refine .ite (.refuse h _) (.ite (.refuse h _) ?_)
  split
  · exact .refuse h _
  · exact .ite (.refuse h _) (.ite (.refuse h _) (.accept ((h.withdraw _ _).markSkipped _).tally _))

theorem answered_shiftZone (h : Alike b l s t) (z : Byte) (o : BitVec 16) (i : BitVec 40) :
    Answered b l (shiftZone p z o i s) (shiftZone p z o i t) := by
  have second : s.time.t = t.time.t := h.read fun s => s.time.t
  have old : s.zoneRecord z.toNat = t.zoneRecord z.toNat := h.read fun s => s.zoneRecord z.toNat
  have placed {u v : State} (h : Alike b l u v) (c : Change) (a : Option Nat) :
      Answered b l (accept (u.place c a .operator .qualified none).tally (oneByte u.newId))
        (accept (v.place c a .operator .qualified none).tally (oneByte v.newId)) := by
    rw [show u.newId = v.newId from h.read State.newId]
    exact .accept (h.place _ _ _ _ _).tally _
  unfold shiftZone
  dsimp only
  rw [h.holdsLead p, second, old]
  refine .ite (.refuse h _) (.ite (.refuse h _) ?_)
  split
  · exact .refuse h _
  · refine .ite (.refuse h _) (.ite (.refuse h _) ?_)
    split
    · exact placed ((h.withdraw _ _).markSkipped _) _ _
    · exact placed h _ _

theorem answered_configure (h : Alike b l s t) (k : Byte) (x : BitVec 32) :
    Answered b l (configure p k x s) (configure p k x t) := by
  unfold configure
  rw [h.holdsLead p]
  refine .ite (.refuse h _) ?_
  split
  · refine .ite (.refuse h _) (.accept ?_ _)
    exact h.map fun s => s.setSettings { s.settings with pending := s.settings.pending.put _ (some _) }
  · exact .refuse h _

/-! #### Positions -/

theorem Alike.setPos (h : Alike b l s t) (q : Pos) {x y : Position} (same : x.core = y.core) :
    Alike b l (s.setPos q x) (t.setPos q y) := by
  have roster : (s.roster.put q x).map Position.core = (t.roster.put q y).map Position.core := by
    refine Tab.ext_get fun r => ?_
    simp only [Tab.get_map, Tab.get_put]
    split
    · exact same
    · exact h.pos r
  have all := congrArg (fun u : State => { u with roster := (t.roster.put q y).map Position.core }) h
  unfold Alike
  refine Eq.trans ?_ all
  unfold State.core State.setPos
  rw [roster]

theorem answered_setPosition (h : Alike b l s t) (q m z : Byte) : Answered b l (setPosition p q m z s) (setPosition p q m z t) := by
  have set (q : Pos) (x : Option (Delivery × Fin 16)) : Alike b l (s.setPos q { s.pos q with pendingSettings := x })
      (t.setPos q { t.pos q with pendingSettings := x }) :=
    h.setPos q (congrArg (fun y : Position => { y with pendingSettings := x }) (h.pos q))
  unfold setPosition
  split
  · dsimp only
    rw [h.holdsLead p]
    refine .ite (.refuse h _) ?_
    split
    · exact .ite (.refuse h _) (.accept (set _ _) _)
    · exact .refuse h _
  · exact .refuse h _

/-! #### The Loader -/

theorem loaderGate_congr (h : Alike b l s t) (c : Code) : loaderGate p c s = loaderGate p c t := h.read (loaderGate p c)

theorem answered_rulesetStart (h : Alike b l s t) (n : BitVec 16) (units : Byte) (serial : BitVec 32) :
    Answered b l (rulesetStart p n units serial s) (rulesetStart p n units serial t) := by
  have loader : s.loader = t.loader := h.read State.loader
  unfold rulesetStart
  rw [loader]
  split
  · exact .refuse h _
  · next c _ =>
    refine .ite (.refuse h _) (.ite (.refuse h _) (.ite (.refuse h _) (.accept ?_ _)))
    exact h.map fun s => { s with
      loader := { state := .loading, claimer := some c, length := n.toNat, serial := serial, buffer := [],
                  timer := units.toNat * 100, fresh := decide (s.time.due = .nothing) } }

theorem answered_rulesetData (h : Alike b l s t) (bytes : List Byte) :
    Answered b l (rulesetData p bytes s) (rulesetData p bytes t) := by
  have loader : s.loader = t.loader := h.read State.loader
  unfold rulesetData
  dsimp only
  rw [loader, loaderGate_congr h]
  refine .ite (.refuse h _) (.ite (.refuse h _) ?_)
  split
  · exact .refuse h _
  · refine .ite ⟨h, rfl⟩ (.accept ?_ _)
    exact h.map fun s => { s with loader := { t.loader with buffer := t.loader.buffer ++ bytes } }

theorem answered_rulesetFinish (h : Alike b l s t) : Answered b l (rulesetFinish p s) (rulesetFinish p t) := by
  have loader : s.loader = t.loader := h.read State.loader
  unfold rulesetFinish
  rw [loader, loaderGate_congr h]
  split
  · exact .refuse h _
  · exact .ite ⟨h, rfl⟩ ⟨h.map fun s => { s with loader := { t.loader with state := .verifying, timer := 0 } }, rfl⟩

theorem answered_rulesetAbandon (h : Alike b l s t) : Answered b l (rulesetAbandon p s) (rulesetAbandon p t) := by
  unfold rulesetAbandon
  rw [loaderGate_congr h]
  split
  · exact .refuse h _
  · exact .accept (h.map State.idleLoader) _

end

end Sys2Proof.Machine

namespace Sys2Proof.Machine

set_option Elab.async false

/-! ### Rehearsals of states alike (R119, R125, R126) -/

section
variable {b l : Bool} {s t u v : State} {p : Pos}

/-- R123: the counts of a rehearsal are those of its roll call. -/
theorem counts_core (l : Bool) (r : Rehearsal) :
    ({ r with detail := if l then r.detail else r.detail.map Detail.core } : Rehearsal).counts = r.counts := by
  cases l with
  | true => rfl
  | false =>
    have items (f : Detail → Bool) (hf : ∀ d, f d.core = f d) :
        ((r.detail.map Detail.core).items.filter f).length = (r.detail.items.filter f).length := by
      show ((r.detail.items.map Detail.core).filter f).length = _
      rw [List.filter_map, List.length_map]
      exact congrArg List.length (List.filter_congr fun d _ => hf d)
    exact Prod.ext (items _ fun _ => rfl) (items _ fun _ => rfl)

theorem Alike.cancelRehearsal (h : Alike b l s t) : Alike b l s.cancelRehearsal t.cancelRehearsal := by
  have running : s.rehearsal.running = t.rehearsal.running := h.read fun s => s.rehearsal.running
  have counts : s.rehearsal.counts = t.rehearsal.counts :=
    h.read (fun s => s.rehearsal.counts) fun s => counts_core l s.rehearsal
  have noted {u v : State} (k : Alike b l u v) (n m : Nat) : Alike b l (u.noteResult n m true) (v.noteResult n m true) := by
    have hears : u.time.holder.or u.rehearsal.requester = v.time.holder.or v.rehearsal.requester :=
      k.read fun s => s.time.holder.or s.rehearsal.requester
    unfold State.noteResult
    rw [hears]
    split
    · exact k.notifyWhere _ _
    · exact k
  unfold State.cancelRehearsal
  rw [running]
  refine Alike.iteSame ?_ h
  unfold State.endRehearsal
  rw [counts]
  dsimp only
  exact (noted (h.clearBoards _) _ _).map fun s => { s with rehearsal := { s.rehearsal with
    phase := .none, tag := none, affected := none, result := some ⟨false, t.rehearsal.counts.1, t.rehearsal.counts.2⟩ } }

theorem answered_rehearse (h : Alike b l s t) (n : BitVec 16) : Answered b l (rehearse p n s) (rehearse p n t) := by
  have second : s.time.t = t.time.t := h.read fun s => s.time.t
  have offset : s.scale.d = t.scale.d := h.read fun s => s.scale.d
  have groups : s.scale.groups = t.scale.groups := h.read fun s => s.scale.groups
  have running : s.rehearsal.running = t.rehearsal.running := h.read fun s => s.rehearsal.running
  have records : s.records = t.records := h.read State.records
  have lead : s.value Config.armingLead = t.value Config.armingLead := h.read fun s => s.value Config.armingLead
  unfold rehearse
  dsimp only
  rw [h.holdsLead p, second, offset, groups, running, records, lead]
  refine .ite (.refuse h _) ?_
  split
  · refine .ite (.refuse h _) (.ite (.refuse h _) (.ite (.refuse h _) (.ite (.refuse h _) (.accept ?_ _))))
    refine h.map (fun s => { s with rehearsal := { (s.rehearsal.clearDetail) with
      phase := .pending, span := max 5 (min 600 n.toNat), requester := posCtl p, tag := none, armedAt := none, affected := none,
      result := none } }) fun s => ?_
    cases l <;> rfl
  · exact .refuse h _

theorem answered_clearScale (h : Alike b l s t) : Answered b l (clearScale p s) (clearScale p t) := by
  have scale : s.scale = t.scale := h.read State.scale
  unfold clearScale
  rw [h.holdsLead p, scale]
  exact .ite (.refuse h _) (.accept (h.withScale _) _)

theorem answered_rehearsalCancel (h : Alike b l s t) : Answered b l (rehearsalCancel p s) (rehearsalCancel p t) := by
  have running : s.rehearsal.running = t.rehearsal.running := h.read fun s => s.rehearsal.running
  unfold rehearsalCancel
  rw [h.holdsLead p, running]
  exact .ite (.refuse h _) (.ite (.refuse h _) (.accept h.cancelRehearsal _))

/-- R165: a request that is no QUERY is judged alike in states alike, of a position that does not depart. -/
theorem answered_perform (h : Alike b l s t) {r : Request} (tells : r.isQuery = false) :
    Answered b l (perform false p r s) (perform false p r t) := by
  cases r with
  | announce o d k i => exact answered_announce h o d k i
  | setTime x => exact answered_setTime h x
  | setOffset x => exact answered_setOffset h x
  | confirm id => exact answered_confirm h id
  | withdraw id => exact answered_withdrawRequest h id
  | shiftZone z o i => exact answered_shiftZone h z o i
  | configure k x => exact answered_configure h k x
  | setPosition q m z => exact answered_setPosition h q m z
  | muteSource q o a => exact answered_muteSource h q o _
  | clearScale => exact answered_clearScale h
  | rulesetStart n k x => exact answered_rulesetStart h n k x
  | rulesetData x => exact answered_rulesetData h x
  | rulesetFinish => exact answered_rulesetFinish h
  | rulesetAbandon => exact answered_rulesetAbandon h
  | rehearse n => exact answered_rehearse h n
  | rehearsalCancel => exact answered_rehearsalCancel h
  | query k i => cases tells

end

end Sys2Proof.Machine

namespace Sys2Proof.Machine

set_option Elab.async false

/-! ### A frame in which no position qualifies a new value (R101, R102) -/

section
variable {b l : Bool} {s t u v : State} {p q : Pos} {segs : List (BitVec 48)} {before : State}

/-- R101, R102: such a frame of a position works its samplers alone. -/
theorem frame_unmoved {x : Position} {c : CardSegment} (g8 : Byte) (present : x.nextIntent c ≠ .idle) (same : x.nextIntent c = x.intent)
    (held : (x.sHeld.feed c.held).steady.or x.held = x.held) (ready : (x.sReady.feed c.ready.toNat).steady.getD x.ready = x.ready)
    (occupied : x.state ≠ .empty) :
    x.frame g8 c = ({ x.sample c with role := (x.sRole.feed (readRole c.role)).steady.getD x.role }, .quiet) := by
  have fields : (x.sample c).takeFields = { x.sample c with role := (x.sRole.feed (readRole c.role)).steady.getD x.role } := by
    unfold Position.takeFields Position.sample
    dsimp only
    rw [held, ready]
  have intent : (x.sample c).sIntent.steady.getD (x.sample c).intent = x.nextIntent c := rfl
  unfold Position.frame
  dsimp only
  rw [intent, if_neg occupied, if_neg present, if_pos same, fields]
  exact (if_pos rfl).trans (if_pos same)

theorem frameAt_unmoved (still : s.unmoved segs q) :
    (s.frameAt segs q).2 = .quiet ∧ (s.frameAt segs q).1.core = (s.pos q).core := by
  unfold State.unmoved at still
  dsimp only at still
  unfold State.frameAt
  generalize s.pos q = x at still ⊢
  generalize segmentOf segs q = c at still ⊢
  have sampled (y : Role) (m : Sampler Role) (h : y = x.role) : ({ x.sample c with role := y, sRole := m } : Position).core = x.core := by
    rw [h]
    rfl
  unfold frameOf
  by_cases empty : x.state = .empty
  · rw [if_pos empty] at still
    rw [Position.frame_stays _ empty still]
    dsimp only
    split
    · exact ⟨rfl, rfl⟩
    · exact ⟨rfl, rfl⟩
  · rw [if_neg empty] at still
    obtain ⟨present, same, held, ready, role⟩ := still
    rw [frame_unmoved _ present same held ready empty]
    dsimp only
    split
    · next controller => exact ⟨rfl, sampled _ _ (role controller)⟩
    · exact ⟨rfl, rfl⟩

theorem unmoved_of_unset (h : (t.pos q).unset = (s.pos q).unset) (still : s.unmoved segs q) : t.unmoved segs q := by
  have fields {β : Type} (f : Position → β) (hf : ∀ x, f x.unset = f x := by intro x; rfl) : f (t.pos q) = f (s.pos q) := by
    rw [← hf, ← hf (s.pos q), h]
  unfold State.unmoved at still ⊢
  dsimp only at still ⊢
  rw [fields Position.sIntent, fields Position.intent, fields Position.state, fields Position.sHeld, fields Position.held,
    fields Position.sReady, fields Position.ready, fields Position.sRole, fields Position.role]
  exact still

theorem alike_setRoster {m : Tab Position 12} (h : ∀ q, (m.get q).core = (s.pos q).core) : Alike b l (s.setRoster m) s := by
  have roster : m.map Position.core = s.roster.map Position.core := by
    refine Tab.ext_get fun q => ?_
    rw [Tab.get_map, Tab.get_map]
    exact h q
  unfold Alike State.core State.setRoster
  dsimp only
  rw [roster]

/-- R122: the latency counts of an armed rehearsal are all that its frame touches. -/
theorem alike_frameRehearsal (calm : l = true → s.rehearsal.phase ≠ .armed) : Alike b l s.frameRehearsal s := by
  unfold State.frameRehearsal
  split
  · next k armed _ =>
    have off : l = false := by
      cases l with
      | false => rfl
      | true => exact absurd armed (calm rfl)
    subst off
    have one (d : Detail) (ready : Nat) : (d.frame k ready).core = d.core := by
      unfold Detail.frame
      split
      · rfl
      · split <;> rfl
    have detail : (Tab.build 12 fun p => (s.rehearsal.detail.get p).frame k (s.pos p).ready).map Detail.core =
        s.rehearsal.detail.map Detail.core := by
      refine Tab.ext_get fun q => ?_
      rw [Tab.get_map, Tab.get_map, Tab.get_build]
      exact one _ _
    unfold Alike State.core
    dsimp only
    rw [if_neg (by decide), if_neg (by decide), detail]
  · exact .refl s

section
variable (still : ∀ q, s.unmoved segs q)
include still

theorem gone_unmoved : s.gone segs = [] := by
  refine List.filter_eq_nil_iff.mpr fun q _ => ?_
  rw [(frameAt_unmoved (still q)).1]
  decide

theorem frameRoster_unmoved : s.frameRoster segs before = s.seated segs := by
  have tells : s.tells segs = [] := by
    refine List.filter_eq_nil_iff.mpr fun q _ => ?_
    rw [(frameAt_unmoved (still q)).1]
    decide
  have prompts : s.departuresPrompt segs [] before = false := by simp [State.departuresPrompt, State.holdsSources]
  rw [frameRoster_eq, tells]
  unfold State.parted
  rw [gone_unmoved still, prompts]
  rfl

/-- R148: such a frame, but for the latencies of an armed rehearsal, leaves all that requests read, where the lead stays and no
load has run out. -/
theorem alike_frameEvents (lead : (s.frameEvents segs before).time.holder = s.time.holder)
    (timed : s.loader.state = .loading → s.loader.timer ≠ 0) (calm : l = true → s.rehearsal.phase ≠ .armed) :
    Alike b l (s.frameEvents segs before) s := by
  have seated : Alike b l (s.seated segs) s := alike_setRoster fun q => by
    rw [Tab.get_build]
    exact (frameAt_unmoved (still q)).2
  have marked (u : State) : Alike b l (u.frameMarks segs before) u := rfl
  have start : Alike b l ((s.seated segs).frameMarks segs before) s := (marked _).trans seated
  have arbitrated {u : State} (same : u.arbitrate.time.holder = u.time.holder) : Alike b l u.arbitrate u := by
    rw [(arbitrate_effect (s := u)).1] at same
    unfold State.arbitrate
    dsimp only
    rw [if_pos same, same]
    rfl
  have due {u : State} (timed : u.loader.state = .loading → u.loader.timer ≠ 0) : u.expireLoader = u := by
    unfold State.expireLoader
    refine if_neg ?_
    simpa using timed
  unfold State.frameEvents at lead ⊢
  rw [frameRoster_unmoved still] at lead ⊢
  generalize (s.seated segs).frameMarks segs before = w at lead start ⊢
  have holder : w.time.holder = s.time.holder := start.read fun s => s.time.holder
  have same : w.arbitrate.time.holder = w.time.holder := by
    rw [holder, ← lead]
    exact ((upholds_frameRehearsal _).trans (upholds_expireLoader _)).holder.symm
  have done := arbitrated same
  have phase : w.arbitrate.rehearsal.phase = s.rehearsal.phase := (done.trans start).read fun s => s.rehearsal.phase
  have counted := (alike_frameRehearsal (b := b) (l := l) (s := w.arbitrate) fun h => by rw [phase]; exact calm h).trans
    (done.trans start)
  have loader : w.arbitrate.frameRehearsal.loader = s.loader := counted.read State.loader
  rw [due (by rw [loader]; exact timed)]
  exact counted

end

end

end Sys2Proof.Machine

namespace Sys2Proof.Machine

set_option Elab.async false

/-! ### A frame that completes one request alone (R165, R166) -/

section
variable {b l : Bool} {s t u v w : State} {p q : Pos} {r : Request} {segs : List (BitVec 48)} {order : FrameOrder}
variable {kind : Byte} {payload : List Byte}

/-- R139: a load that runs has time left. -/
def State.timed (s : State) : Prop := s.loader.state = .loading → s.loader.timer ≠ 0

theorem timed_of_loader (h : t.loader = s.loader) (timed : s.timed) : t.timed := by
  unfold State.timed
  rw [h]
  exact timed

/-- R138, R142: a request that starts a load gives it time, and no other one takes the time away. -/
theorem timed_perform (leaving : Bool) (p : Pos) (r : Request) (timed : s.timed) : (perform leaving p r s).1.timed := by
  have same {but : List Block} {t : State} (h : Unchanged but s t) (hb : Block.loader ∉ but := by decide) : t.timed :=
    timed_of_loader (h .loader hb) timed
  cases r with
  | announce o d k i => exact same (frame_announce leaving p o d k i s)
  | setTime x => exact same (frame_setTime' p x s)
  | setOffset x => exact same (frame_setOffset p x s)
  | confirm id => exact same (frame_confirm p id s)
  | withdraw id => exact same (frame_withdrawRequest p id s)
  | shiftZone z o i => exact same (frame_shiftZone p z o i s)
  | configure k x => exact same (frame_configure p k x s)
  | setPosition q m z => exact same (frame_setPosition p q m z s)
  | muteSource q o a => exact same (frame_muteSource p q o _ s)
  | clearScale => exact same (frame_clearScale p s)
  | rulesetStart n units serial =>
    show (rulesetStart p n units serial s).1.timed
    unfold rulesetStart
    split
    · exact timed
    · dsimp only
      split
      · exact timed
      · next range =>
        split
        · exact timed
        · split
          · exact timed
          · intro _
            show units.toNat * 100 ≠ 0
            simp only [Bool.not_eq_true, Bool.not_eq_false', Bool.and_eq_true, decide_eq_true_eq] at range
            omega
  | rulesetData bytes =>
    show (rulesetData p bytes s).1.timed
    unfold rulesetData
    dsimp only
    repeat' split
    all_goals exact timed
  | rulesetFinish =>
    show (rulesetFinish p s).1.timed
    unfold rulesetFinish
    split
    · exact timed
    · split
      · exact timed
      · exact fun verifying => by cases verifying
  | rulesetAbandon =>
    show (rulesetAbandon p s).1.timed
    unfold rulesetAbandon
    split
    · exact timed
    · exact fun idle => by cases idle
  | rehearse n => exact same (frame_rehearse p n s)
  | rehearsalCancel => exact same (frame_rehearsalCancel p s)
  | query k i => exact same (frame_query k i s)

/-- R119, R126: a request arms no rehearsal. -/
theorem unarmed_perform (leaving : Bool) (p : Pos) (r : Request) (calm : s.rehearsal.phase ≠ .armed) :
    (perform leaving p r s).1.rehearsal.phase ≠ .armed := by
  have same {but : List Block} {t : State} (h : Unchanged but s t) (hb : Block.rehearsal ∉ but := by decide) :
      t.rehearsal.phase ≠ .armed := by
    rw [show t.rehearsal = s.rehearsal from h .rehearsal hb]
    exact calm
  cases r with
  | announce o d k i => exact same (frame_announce leaving p o d k i s)
  | setTime x => exact same (frame_setTime' p x s)
  | setOffset x => exact same (frame_setOffset p x s)
  | confirm id => exact same (frame_confirm p id s)
  | withdraw id => exact same (frame_withdrawRequest p id s)
  | shiftZone z o i => exact same (frame_shiftZone p z o i s)
  | configure k x => exact same (frame_configure p k x s)
  | setPosition q m z => exact same (frame_setPosition p q m z s)
  | muteSource q o a => exact same (frame_muteSource p q o _ s)
  | clearScale => exact same (frame_clearScale p s)
  | rulesetStart n units serial => exact same (frame_rulesetStart p n units serial s)
  | rulesetData bytes => exact same (frame_rulesetData p bytes s)
  | rulesetFinish => exact same (frame_rulesetFinish p s)
  | rulesetAbandon => exact same (frame_rulesetAbandon p s)
  | rehearse n =>
    show (rehearse p n s).1.rehearsal.phase ≠ .armed
    unfold rehearse
    dsimp only
    split
    · exact calm
    · split
      · split
        · exact calm
        · split
          · exact calm
          · split
            · exact calm
            · split
              · exact calm
              · exact fun pending => by cases pending
      · exact calm
  | rehearsalCancel =>
    show (rehearsalCancel p s).1.rehearsal.phase ≠ .armed
    unfold rehearsalCancel
    split
    · exact calm
    · split
      · exact calm
      · show s.cancelRehearsal.rehearsal.phase ≠ .armed
        rw [phase_cancelRehearsal]
        decide
  | query k i => exact same (frame_query k i s)

/-- R165: the judgement of a request in states alike. -/
theorem Alike.takeRequest (h : Alike b l s t) (tells : r.isQuery = false) :
    Alike b l (s.takeRequest false p r) (t.takeRequest false p r) := by
  obtain ⟨alike, -⟩ := answered_perform (p := p) h tells
  unfold State.takeRequest State.owe
  exact ((alike_setLane p (by rfl)).trans alike).trans (alike_setLane p (by rfl)).symm

/-- R139: the Loader at a frame end, its timer lowered where it runs. -/
def Loader.ticked (x : Loader) : Loader :=
  { x with timer := if x.state = .loading ∧ x.fresh = false then x.timer - 1 else x.timer }

theorem tickLoader_eq (s : State) : s.tickLoader = { s with loader := s.loader.ticked } := by
  unfold State.tickLoader Loader.ticked
  by_cases ticks : s.loader.state = .loading ∧ s.loader.fresh = false
  · rw [if_pos ticks, if_pos (by simp [ticks.1, ticks.2])]
  · rw [if_neg ticks, if_neg (by simpa using ticks)]

/-- R165: the state in which the request of position `p` that a frame completes is judged as a command of its own: the timer
lowered, the lane OPEN. -/
def State.alone (p : Pos) (s : State) : State :=
  { s with
    time := { s.time with frame := 0 }, loader := s.loader.ticked
    lanes := s.lanes.put p { s.lane p with inbound := .opened, buffer := [] } }

theorem alike_heard (arrived : s.arrivals segs = [(p, kind, payload)]) (parsed : Request.parse kind payload = .ok r) :
    Alike true l (s.nextMoment.heard segs) ((s.alone p).judged p r) := by
  have forms : (s.nextMoment.heard segs) = (s.nextMoment.hearLanes segs).tickLoader := by
    unfold State.heard
    rw [show s.nextMoment.arrivals segs = _ from arrived]
    show State.tickLoader (State.answerForm _ _) = _
    unfold State.answerForm
    rw [parsed]
  have heard : Alike true l (s.nextMoment.hearLanes segs) s.nextMoment :=
    (Alike.refl s.nextMoment).lanes fun _ q => board_hearLanes s.nextMoment q
  have ticked : Alike true l (s.nextMoment.hearLanes segs).tickLoader s.nextMoment.tickLoader := by
    rw [tickLoader_eq, tickLoader_eq]
    exact heard.map fun s => { s with loader := s.loader.ticked }
  have opened : Alike true l (s.alone p).nextMoment s.nextMoment.tickLoader := by
    rw [tickLoader_eq]
    exact alike_setLane
      (s := { s.nextMoment with time := { s.time with frame := 0 }, loader := s.loader.ticked }) p (by rfl)
  rw [forms]
  exact ticked.trans (opened.symm.trans (alike_setLane p (by rfl)).symm)

end

end Sys2Proof.Machine

namespace Sys2Proof.Machine

set_option Elab.async false

section
variable {s : State} {p : Pos} {r : Request} {segs : List (BitVec 48)} {order : FrameOrder} {kind : Byte} {payload : List Byte}

/-- Whether the frame leaves the latencies of the rehearsal (R122). -/
def State.calm (s : State) : Bool := decide (s.rehearsal.phase ≠ .armed)

/-- What a lane owes after a request is the reply that the request got. -/
theorem owed_takeRequest (s : State) : ((s.takeRequest false p r).lane p).inbound = .held ∧
    ((s.takeRequest false p r).lane p).owed = some (r.response (perform false p r s).2) := by
  obtain ⟨-, held, -, owed⟩ := inward_iff.mp (inward_takeRequest_self (q := p) false r s)
  exact ⟨held, owed⟩

section
variable (arrived : s.arrivals segs = [(p, kind, payload)]) (parsed : Request.parse kind payload = .ok r)
  (tells : r.isQuery = false) (still : ∀ q, s.unmoved segs q) (timed : (s.alone p).timed)
include arrived parsed tells still timed

/-- R165, R166: a frame that completes one request alone, and in which nothing else comes about, takes that request as the
request's own command does. -/
theorem judgedAll_alone (lead : (s.nextMoment.judgedAll segs order).time.holder = s.time.holder) :
    Alike true s.calm (s.nextMoment.judgedAll segs order) (((s.alone p).judged p r).takeRequest false p r) ∧
    ((s.nextMoment.judgedAll segs order).lane p).inbound = .held ∧
    ((s.nextMoment.judgedAll segs order).lane p).owed = ((((s.alone p).judged p r).takeRequest false p r).lane p).owed := by
  obtain ⟨w, hw⟩ : ∃ w, w = s.nextMoment.heard segs := ⟨_, rfl⟩
  obtain ⟨x, hx⟩ : ∃ x, x = (s.alone p).judged p r := ⟨_, rfl⟩
  have heard : Alike true s.calm w x := by
    rw [hw, hx]
    exact alike_heard arrived parsed
  have occupied : w.occupied p = true := by
    rw [hw, (upholds_heard segs _).occupied]
    exact occupied_of_arrivals (s := s) (a := (p, kind, payload)) (by rw [arrived]; exact List.mem_cons_self ..)
  have unset (q : Pos) : (w.pos q).unset = (s.pos q).unset := by
    rw [hw, (frame_heard segs _).pos_eq]
    rfl
  have unmoved (q : Pos) : w.unmoved segs q := unmoved_of_unset (unset q) (still q)
  have run : w.timed := by
    have loader : w.loader = x.loader := heard.read State.loader
    refine timed_of_loader loader ?_
    rw [hx]
    exact timed
  have phase : s.calm = true → w.rehearsal.phase ≠ .armed := by
    intro calm
    rw [show w.rehearsal = s.rehearsal by rw [hw]; exact frame_heard segs _ .rehearsal (by decide)]
    simpa [State.calm] using calm
  have holder : w.time.holder = s.time.holder := by
    rw [hw]
    exact (upholds_heard segs _).holder
  have requests : requestsOf (s.nextMoment.arrivals segs) = [(p, r)] := by
    rw [show s.nextMoment.arrivals segs = _ from arrived]
    unfold requestsOf
    rw [List.filterMap_cons]
    dsimp only
    rw [parsed]
    rfl
  have ordered : requestOrder order.lanes [(p, r)] = [(p, r)] := requestOrder_singleton _ _
  have one (leaving : List Pos) (out : leaving.contains p = false) {u : State} (there : u.occupied p = true) :
      u.takeRequests leaving [(p, r)] = u.takeRequest false p r := by
    show (if u.occupied p = true then u.takeRequest (leaving.contains p) p r else u) = _
    rw [if_pos there, out]
  obtain ⟨alike, reply⟩ := answered_perform (p := p) heard tells
  have judged : Alike true s.calm (w.takeRequest false p r) (x.takeRequest false p r) := heard.takeRequest tells
  have owed := owed_takeRequest (p := p) (r := r) x
  rw [← hx]
  by_cases prompt : order.requestsFirst = true ∧ r.isMute = false
  · -- taken before the Roster
    obtain ⟨first, notMute⟩ := prompt
    have prompts : s.nextMoment.prompts segs order = [(p, r)] := by
      unfold State.prompts
      rw [requests, ordered]
      simp [notMute, tells]
    have late : s.nextMoment.lateRequests segs order = [] := by
      unfold State.lateRequests
      rw [requests, ordered, first]
      simp [notMute, tells]
    have nobody : s.nextMoment.withEvent segs .departed = [] := gone_unmoved (s := s.nextMoment) still
    have readied : s.nextMoment.readied segs order = w.takeRequest false p r := by
      unfold State.readied
      rw [prompts, first, nobody, ← hw]
      exact one [] rfl occupied
    have all : s.nextMoment.judgedAll segs order = (w.takeRequest false p r).frameEvents segs s.nextMoment := by
      unfold State.judgedAll State.rostered
      rw [late, readied]
      rfl
    rw [all] at lead ⊢
    have stays (q : Pos) : (w.takeRequest false p r).unmoved segs q :=
      unmoved_of_unset (unset_perform false p r w q) (unmoved q)
    have same : SameInward p (w.takeRequest false p r) ((w.takeRequest false p r).frameEvents segs s.nextMoment) :=
      inward_frameEvents (by rw [gone_unmoved stays]; exact List.not_mem_nil)
    obtain ⟨-, inbound, -, owes⟩ := inward_iff.mp same
    obtain ⟨held, mine⟩ := owed_takeRequest (p := p) (r := r) w
    refine ⟨(alike_frameEvents stays ?_ ?_ ?_).trans judged, inbound.trans held, ?_⟩
    · rw [lead, (upholds_takeRequest false r occupied).holder, holder]
    · exact timed_perform false p r run
    · exact fun calm => unarmed_perform false p r (phase calm)
    · rw [owes, mine, owed.2, reply]
  · -- taken after it
    have late : s.nextMoment.lateRequests segs order = [(p, r)] := by
      unfold State.lateRequests State.prompts
      rw [requests, ordered]
      cases first : order.requestsFirst <;> cases mute : r.isMute <;> simp_all
    have readied : s.nextMoment.readied segs order = w := by
      have early : (if order.requestsFirst = true then s.nextMoment.prompts segs order else []) = [] := by
        unfold State.prompts
        rw [requests, ordered]
        cases first : order.requestsFirst <;> cases mute : r.isMute <;> simp_all
      unfold State.readied
      rw [early, hw]
      rfl
    have seat : (w.frameEvents segs s.nextMoment).occupied p = true := by
      have state := congrArg Position.state (frameAt_unmoved (unmoved p)).2
      unfold State.occupied at occupied ⊢
      rw [pos_frameEvents, show (w.frameAt segs p).1.state = (w.pos p).state from state]
      exact occupied
    have all : s.nextMoment.judgedAll segs order = (w.frameEvents segs s.nextMoment).takeRequest false p r := by
      unfold State.judgedAll State.rostered
      rw [late, readied]
      exact one [] rfl seat
    rw [all] at lead ⊢
    have events : Alike true s.calm (w.frameEvents segs s.nextMoment) w := by
      refine alike_frameEvents unmoved ?_ run phase
      rw [← (upholds_takeRequest false r seat).holder, lead, holder]
    have before := events.trans heard
    obtain ⟨-, reply⟩ := answered_perform (p := p) before tells
    obtain ⟨held, mine⟩ := owed_takeRequest (p := p) (r := r) (w.frameEvents segs s.nextMoment)
    exact ⟨before.takeRequest tells, held, by rw [mine, owed.2, reply]⟩

end

end

end Sys2Proof.Machine

namespace Sys2Proof.Machine

set_option Elab.async false

/-! ### The boards when the next frame begins (R113, R173, R174) -/

section
variable {s t x y z : State} {p q : Pos}

/-- R173: what the arbiter of a lane can do. -/
theorem arbiter_cases (q : Pos) (x : State) : x.arbiter q = x ∨ (∃ bytes, x.arbiter q = x.setLane q ((x.lane q).send bytes .response)) ∨
    ∃ e, x.arbiter q = x.sendNotice q e (x.noticeParcel q e.notice) := by
  unfold State.arbiter
  split
  · split
    · split
      · exact .inr (.inl ⟨_, rfl⟩)
      · exact .inl rfl
    · split
      · dsimp only
        split
        · exact .inr (.inr ⟨_, rfl⟩)
        · exact .inl rfl
      · exact .inl rfl
  · exact .inl rfl

theorem wantsOffer_congr (state : (t.pos q).state = (s.pos q).state) (held : (t.pos q).held = (s.pos q).held)
    (cursor : (t.pos q).cursor = (s.pos q).cursor) (scale : t.scale = s.scale) : t.wantsOffer q = s.wantsOffer q := by
  unfold State.wantsOffer State.needsOffer State.g8
  dsimp only
  rw [state, held, cursor, scale]

/-- R115: what an offer carries, and so every notice, does not depend on the offer cursor. -/
theorem noticeParcel_congr (pos : (t.pos q).uncursored = (s.pos q).uncursored) (scale : t.scale = s.scale)
    (zones : t.zones = s.zones) (time : t.time = s.time) (n : Notice) : t.noticeParcel q n = s.noticeParcel q n := by
  have held : (t.pos q).held = (s.pos q).held := (congrArg Position.held pos :)
  have zone : (t.pos q).zone = (s.pos q).zone := (congrArg Position.zone pos :)
  unfold State.noticeParcel State.offerParcel State.resyncBytes State.catchUpEntry State.g8
  dsimp only
  rw [held, zone, scale, zones, time]

/-- The board at the end of an event, where it has the offer that is wanted. -/
theorem board_refreshOffers_of_right (right : hasOffer (s.lane q).board = s.wantsOffer q) :
    (s.refreshOffers.lane q).board = (s.lane q).board := by
  rw [lane_refreshOffers]
  cases wants : s.wantsOffer q with
  | true =>
    rw [wants] at right
    simp [right]
  | false =>
    rw [wants] at right
    simp only [Bool.false_eq_true, if_false]
    refine List.filter_eq_self.mpr fun e he => ?_
    simp only [hasOffer, List.any_eq_false] at right
    simpa using right e he

theorem hasOffer_dropFirst {e : BoardEntry} (plain : e.notice.isOffer = false) (b : List BoardEntry) :
    hasOffer (dropFirst (fun x => decide (x = e)) b) = hasOffer b := by
  refine any_dropFirst _ _ (fun x hx => ?_) b
  rw [of_decide_eq_true hx]
  exact plain

theorem isOffer_eq {n : Notice} (h : n.isOffer = true) : n = .offer := by
  cases n with
  | offer => rfl
  | _ => cases h

theorem uncursored_sendNotice (q : Pos) (e : BoardEntry) (bytes : List Byte) (s : State) :
    ((s.sendNotice q e bytes).pos q).uncursored = (s.pos q).uncursored := by
  unfold State.sendNotice
  dsimp only
  split
  · rw [State.setPos_pos, if_pos rfl]
    rfl
  · rfl

theorem pos_sendNotice_of_plain {e : BoardEntry} (plain : e.notice.isOffer = false) {bytes : List Byte} :
    (s.sendNotice q e bytes).pos q = s.pos q := by
  unfold State.sendNotice
  rw [plain]
  rfl

theorem pos_sendNotice_of_offer {e : BoardEntry} (offer : e.notice.isOffer = true) {bytes : List Byte} :
    (s.sendNotice q e bytes).pos q = { s.pos q with cursor := some ((s.pos q).held, s.scale.g) } := by
  unfold State.sendNotice
  rw [offer]
  show (State.setPos q _ _).pos q = _
  rw [State.setPos_pos, if_pos rfl]

/-- R173, R174: between the end of the last frame (`x`, with its offers right) and the next one (`z`), the arbiter takes from a
board what it sends, and an offer that it sends leaves no other behind. -/
theorem board_opened (right : hasOffer (x.lane q).board = x.wantsOffer q) (lane : z.lane q = (x.arbiter q).lane q)
    (pos : z.pos q = (x.arbiter q).pos q) (others : Unchanged [.roster, .lanes] x z) :
    ((z.lane q).sending = none → (z.refreshOffers.lane q).board = (x.lane q).board) ∧
    (∀ e ∈ (z.refreshOffers.lane q).board, e ∈ (x.lane q).board) ∧
    ∀ e ∈ (x.lane q).board, e ∈ (z.refreshOffers.lane q).board ∨
      ∃ y, (z.lane q).sending = some y ∧ y.bytes = z.noticeParcel q e.notice := by
  have scale : z.scale = x.scale := others .scale (by decide)
  have kept (board : (z.lane q).board = (x.lane q).board) (same : z.pos q = x.pos q) :
      (z.refreshOffers.lane q).board = (x.lane q).board := by
    rw [board_refreshOffers_of_right, board]
    rw [board, wantsOffer_congr (by rw [same]) (by rw [same]) (by rw [same]) scale, right]
  have still (board : (z.refreshOffers.lane q).board = (x.lane q).board) :
      ((z.lane q).sending = none → (z.refreshOffers.lane q).board = (x.lane q).board) ∧
      (∀ e ∈ (z.refreshOffers.lane q).board, e ∈ (x.lane q).board) ∧
      ∀ e ∈ (x.lane q).board, e ∈ (z.refreshOffers.lane q).board ∨
        ∃ y, (z.lane q).sending = some y ∧ y.bytes = z.noticeParcel q e.notice := by
    rw [board]
    exact ⟨fun _ => rfl, fun _ h => h, fun _ h => .inl h⟩
  rcases arbiter_cases q x with idle | ⟨bytes, answers⟩ | ⟨e, sends⟩
  · rw [idle] at lane pos
    exact still (kept (by rw [lane]) pos)
  · rw [answers] at lane pos
    rw [State.setLane_lane, if_pos rfl] at lane
    exact still (kept (by rw [lane]; rfl) pos)
  · rw [sends] at lane pos
    rw [lane_sendNotice] at lane
    have board : (z.lane q).board = dropFirst (fun y => decide (y = e)) (x.lane q).board := by rw [lane]; rfl
    have sent : ∃ y, (z.lane q).sending = some y ∧ y.bytes = x.noticeParcel q e.notice := ⟨_, by rw [lane]; rfl, rfl⟩
    obtain ⟨y, sending, bytes⟩ := sent
    have uncursored : (z.pos q).uncursored = (x.pos q).uncursored := by
      rw [pos]
      exact uncursored_sendNotice q e _ x
    have parcel (n : Notice) : z.noticeParcel q n = x.noticeParcel q n :=
      noticeParcel_congr uncursored scale (others .zones (by decide)) (others .time (by decide)) n
    have busy : (z.lane q).sending ≠ none := by rw [sending]; exact fun h => by cases h
    cases offer : e.notice.isOffer with
    | false =>
      have cursor : z.pos q = x.pos q := by rw [pos, pos_sendNotice_of_plain offer]
      have same : (z.refreshOffers.lane q).board = dropFirst (fun y => decide (y = e)) (x.lane q).board := by
        rw [board_refreshOffers_of_right, board]
        rw [board, hasOffer_dropFirst offer, right, wantsOffer_congr (by rw [cursor]) (by rw [cursor]) (by rw [cursor]) scale]
      rw [same]
      refine ⟨fun h => absurd h busy, fun y hy => (dropFirst_sublist _ _).subset hy, fun y hy => ?_⟩
      by_cases own : y = e
      · exact .inr ⟨_, sending, by rw [parcel, bytes, own]⟩
      · exact .inl (mem_dropFirst_of_ne hy own)
    | true =>
      have done : z.wantsOffer q = false := by
        unfold State.wantsOffer
        rw [pos, scale, pos_sendNotice_of_offer offer]
        simp
      have same : (z.refreshOffers.lane q).board =
          (dropFirst (fun y => decide (y = e)) (x.lane q).board).filter fun y => !y.notice.isOffer := by
        rw [lane_refreshOffers, done, board]
        rfl
      rw [same]
      refine ⟨fun h => absurd h busy, fun y hy => (dropFirst_sublist _ _).subset (List.mem_filter.mp hy).1, fun y hy => ?_⟩
      cases kind : y.notice.isOffer with
      | true =>
        refine .inr ⟨_, sending, ?_⟩
        rw [parcel, bytes, isOffer_eq kind, isOffer_eq offer]
      | false =>
        have own : y ≠ e := by
          rintro rfl
          rw [offer] at kind
          cases kind
        exact .inl (List.mem_filter.mpr ⟨mem_dropFirst_of_ne hy own, by simp [kind]⟩)

end

end Sys2Proof.Machine

namespace Sys2Proof.Machine

set_option Elab.async false

/-! ### The start of a frame before the quiet ones (R113, R173, R176) -/

section
variable {s t u x y z : State} {p q : Pos}

theorem SameAnswers.pos (h : SameAnswers s t) (q : Pos) : (t.pos q).uncursored = (s.pos q).uncursored := by
  have := congrArg (fun u : State => u.pos q) h
  simpa [State.asked, State.pos] using this

theorem image_asked (s : State) : s.asked.image = s.image := by
  have positions : (s.roster.map Position.uncursored).map (fun x => (x.mode, x.zone)) = s.roster.map fun x => (x.mode, x.zone) :=
    Tab.ext_get fun q => by rw [Tab.get_map, Tab.get_map, Tab.get_map]; rfl
  unfold State.image
  exact congrArg (fun ps => ({ d := s.retainedD, g := s.scale.g, history := s.scale.history
                               records := (s.records.filter Record.isRetained).map Record.retained, zones := s.zones
                               rules := s.rules, values := s.settings.values, positions := ps } : Retained)) positions

/-- R175: what the store is to hold is read off the blocks that a QUERY reads. -/
theorem SameAnswers.image (h : SameAnswers s t) : t.image = s.image := by
  rw [← image_asked, ← image_asked s, show t.asked = s.asked from h]

/-- R173: the arbiters work lane by lane; that of lane `q` in a state whose lane and position are as they were. -/
theorem arbiters_split (q : Pos) (s : State) : ∃ x, Unchanged [.roster, .lanes] s x ∧
    Unchanged [.roster, .lanes] x s.arbiters ∧ x.lane q = s.lane q ∧ x.pos q = s.pos q ∧
    s.arbiters.lane q = (x.arbiter q).lane q ∧ s.arbiters.pos q = (x.arbiter q).pos q := by
  have others {l : List Pos} (out : q ∉ l) (u : State) : (l.foldl (fun s p => s.arbiter p) u).lane q = u.lane q ∧
      (l.foldl (fun s p => s.arbiter p) u).pos q = u.pos q := by
    induction l generalizing u with
    | nil => exact ⟨rfl, rfl⟩
    | cons p l ih =>
      have ne : p ≠ q := fun e => out (e ▸ List.mem_cons_self ..)
      obtain ⟨lane, pos⟩ := ih (fun h => out (List.mem_cons_of_mem _ h)) (u.arbiter p)
      exact ⟨lane.trans (lane_arbiter_of_ne ne u), pos.trans (pos_arbiter ne u)⟩
  obtain ⟨before, after, cut⟩ := List.append_of_mem (mem_allPos q)
  have distinct : (before ++ q :: after).Nodup := by
    rw [← cut]
    decide
  obtain ⟨-, nodup, apart⟩ := List.nodup_append.mp distinct
  obtain ⟨lane, pos⟩ := others (fun h => apart q h q (List.mem_cons_self ..) rfl) s
  have last := others (List.nodup_cons.mp nodup).1 ((before.foldl (fun s p => s.arbiter p) s).arbiter q)
  have whole : s.arbiters = after.foldl (fun s p => s.arbiter p) ((before.foldl (fun s p => s.arbiter p) s).arbiter q) := by
    unfold State.arbiters
    rw [cut, List.foldl_append, List.foldl_cons]
  have frame (l : List Pos) (u : State) : Unchanged [.roster, .lanes] u (l.foldl (fun s p => s.arbiter p) u) :=
    Unchanged.foldl _ (fun s p => frame_arbiter p s) l u
  rw [whole]
  exact ⟨_, frame before s, (frame_arbiter q _).trans (frame after _), lane, pos, last⟩

/-- R148: before the quiet frames a frame starts with the end of the last one's events and, unless a boundary comes first, with the
arbiters' work. -/
theorem openFrame_loud (loud : s.time.due = .nothing → s.time.frame ≠ 980) :
    s.openFrame = s.finish ∨ s.openFrame = s.finish.arbiters.finish.latch := by
  unfold State.openFrame
  split
  · next due => exact .inr (if_neg (show s.time.frame ≠ Config.quietFrame from loud due))
  · exact .inl rfl

theorem frame_openFrame_loud (loud : s.time.due = .nothing → s.time.frame ≠ 980) :
    Unchanged [.roster, .lanes, .store, .bus] s s.openFrame := by
  rcases openFrame_loud loud with e | e <;> rw [e]
  · exact (frame_finish s).mono
  · exact (((frame_finish s).mono.trans (frame_arbiters _).mono).trans (frame_finish _).mono).trans (frame_latch _).mono

theorem store_openFrame_loud (loud : s.time.due = .nothing → s.time.frame ≠ 980) :
    s.openFrame.store = { s.store with copy := s.image } := by
  have finish (u : State) : u.finish.store = { u.store with copy := u.image } := rfl
  have answers := answers_openFrame s loud
  have image := answers.image
  rcases openFrame_loud loud with e | e
  · rw [e, finish]
  · rw [e] at image ⊢
    have last (u : State) : u.finish.latch.store = { u.store with copy := u.image } ∧ u.finish.latch.image = u.image := ⟨rfl, rfl⟩
    rw [(last _).2] at image
    rw [(last _).1, image, show s.finish.arbiters.store = s.finish.store from frame_arbiters _ .store (by decide), finish]

/-- R113, R173: of the board that the last frame leaves, with its offers right, the next one begins to send an entry, or leaves it. -/
theorem board_openFrame (loud : s.time.due = .nothing → s.time.frame ≠ 980) (q : Pos) :
    ((s.openFrame.lane q).sending = none → (s.openFrame.lane q).board = (s.finish.lane q).board) ∧
    (∀ e ∈ (s.openFrame.lane q).board, e ∈ (s.finish.lane q).board) ∧
    ∀ e ∈ (s.finish.lane q).board, e ∈ (s.openFrame.lane q).board ∨
      ∃ y, (s.openFrame.lane q).sending = some y ∧ y.bytes = s.openFrame.noticeParcel q e.notice := by
  rcases openFrame_loud loud with e | e
  · rw [e]
    exact ⟨fun _ => rfl, fun _ h => h, fun _ h => .inl h⟩
  · rw [e]
    have right : hasOffer (s.finish.lane q).board = s.finish.wantsOffer q := refreshOffers_offersRight s q
    generalize s.finish = a at right ⊢
    obtain ⟨x, before, after, lane, pos, lane', pos'⟩ := arbiters_split q a
    have wanted : x.wantsOffer q = a.wantsOffer q :=
      wantsOffer_congr (by rw [pos]) (by rw [pos]) (by rw [pos]) (before .scale (by decide))
    have opened := board_opened (by rw [lane, wanted, right]) lane' pos' after
    rw [lane] at opened
    have last (u : State) : u.finish.latch.lane q = u.refreshOffers.lane q ∧
        (u.refreshOffers.lane q).sending = (u.lane q).sending ∧
        ∀ n, u.finish.latch.noticeParcel q n = u.noticeParcel q n :=
      ⟨rfl, sending_finish u q, fun n => noticeParcel_congr rfl rfl rfl rfl n⟩
    obtain ⟨same, sending, parcel⟩ := last a.arbiters
    rw [same, sending]
    simp only [parcel]
    exact opened

end

end Sys2Proof.Machine

namespace Sys2Proof.Machine

set_option Elab.async false

/-! ### The frame's state and that of the request's own command (R165, R166) -/

section
variable {s t u v w : State} {p q : Pos} {r : Request} {segs : List (BitVec 48)} {order : FrameOrder} {kind : Byte} {payload : List Byte}
variable {c : Instr} {l realign : Bool}

/-- R165: a request's command is its parcel, taken whole. -/
theorem exec_of_requestOf (h : requestOf c = some (p, r)) (s : State) : exec c s = .next (s.deliver p r) := by
  cases c <;> cases h <;> rfl

/-- R113, R174: the boards at the end of an event of states alike. -/
theorem board_finish_alike (h : Alike true l s t) (q : Pos) : (s.finish.lane q).board = (t.finish.lane q).board := by
  have pos := h.pos q
  have wanted : s.wantsOffer q = t.wantsOffer q :=
    wantsOffer_congr (congrArg Position.state pos :) (congrArg Position.held pos :) (congrArg Position.cursor pos :)
      (h.read State.scale)
  have board := h.board q
  have moment : s.moment = t.moment := h.read State.moment
  have last (u : State) : u.finish.lane q = u.refreshOffers.lane q := rfl
  rw [last, last, lane_refreshOffers, lane_refreshOffers, wanted, board]
  split
  · split
    · exact board
    · show queueOn s.moment .offer (s.lane q).board = queueOn t.moment .offer (t.lane q).board
      rw [moment, board]
  · rfl

theorem Alike.image (h : Alike true l s t) : s.image = t.image := by
  have positions (f : Position → Delivery × Fin 16) (hf : ∀ x, f x.core = f x) : s.roster.map f = t.roster.map f := by
    refine Tab.ext_get fun q => ?_
    rw [Tab.get_map, Tab.get_map]
    exact (hf _).symm.trans ((congrArg f (h.pos q)).trans (hf _))
  have scale : s.scale = t.scale := h.read State.scale
  unfold State.image State.retainedD
  rw [positions (fun x => (x.mode, x.zone)) fun _ => rfl, scale, show s.records = t.records from h.read State.records,
    show s.zones = t.zones from h.read State.zones, show s.rules = t.rules from h.read State.rules,
    show s.settings = t.settings from h.read State.settings]

/-- A position that differs from another one in the samplers and the offer cursor alone. -/
theorem eq_of_frame {x y z : Position} (cursors : x.uncursored = y.uncursored) (samplers : y.core = z.core) :
    { x with sIntent := z.sIntent, sRole := z.sRole, sHeld := z.sHeld, sReady := z.sReady, cursor := z.cursor } = z := by
  have first := congrArg (fun x : Position => { x with
    sIntent := z.sIntent, sRole := z.sRole, sHeld := z.sHeld, sReady := z.sReady, cursor := z.cursor }) cursors
  have second := congrArg (fun x : Position => { x with
    sIntent := z.sIntent, sRole := z.sRole, sHeld := z.sHeld, sReady := z.sReady, cursor := z.cursor }) samplers
  exact first.trans second

/-- The next frame's start from a state `s` alike to the end `d` of the request's own command. -/
theorem opened_alike {d : State} (h : Alike true l s d) (store : s.store = d.store) (early : s.time.frame < 979) (realign : Bool) :
    Unchanged [.time, .rehearsal, .roster, .loader, .lanes, .bus] d.finish (s.opened realign) ∧
    (s.opened realign).time.t = d.finish.time.t ∧ (s.opened realign).time.pendingTime = d.finish.time.pendingTime ∧
    (s.opened realign).loader = { d.finish.loader with fresh := false } ∧
    { (s.opened realign).rehearsal with detail := d.finish.rehearsal.detail } = d.finish.rehearsal ∧
    (l = true → (s.opened realign).rehearsal = d.finish.rehearsal) ∧
    ∀ q, { (s.opened realign).pos q with
            sIntent := (d.finish.pos q).sIntent, sRole := (d.finish.pos q).sRole, sHeld := (d.finish.pos q).sHeld
            sReady := (d.finish.pos q).sReady, cursor := (d.finish.pos q).cursor } = d.finish.pos q ∧
      (((s.opened realign).lane q).sending = none → ((s.opened realign).lane q).board = (d.finish.lane q).board) ∧
      (∀ e ∈ ((s.opened realign).lane q).board, e ∈ (d.finish.lane q).board) ∧
      ∀ e ∈ (d.finish.lane q).board, e ∈ ((s.opened realign).lane q).board ∨
        ∃ x, ((s.opened realign).lane q).sending = some x ∧ x.bytes = (s.opened realign).noticeParcel q e.notice := by
  obtain ⟨k, hk⟩ : ∃ k, k = s.settleLoader.setTime (s.settleLoader.time.advanceFrame realign) := ⟨_, rfl⟩
  have loud : k.time.due = .nothing → k.time.frame ≠ 980 := by
    rw [hk]
    exact loud_advance (b := s.settleLoader.time) early realign
  have kept : Unchanged [.loader, .time] s k := by
    rw [hk]
    exact (frame_settleLoader s).mono.trans (frame_setTime _ _).mono
  have time : k.time.t = s.time.t ∧ k.time.pendingTime = s.time.pendingTime := by
    rw [hk]
    show (s.time.advanceFrame realign).t = _ ∧ (s.time.advanceFrame realign).pendingTime = _
    unfold TimeBase.advanceFrame
    split
    · exact ⟨rfl, rfl⟩
    · split <;> exact ⟨rfl, rfl⟩
  have loader : k.loader = { s.loader with fresh := false } := by rw [hk]; rfl
  have pos (q : Pos) : k.pos q = s.pos q := kept.pos_eq (by decide) q
  have boards (q : Pos) : (k.finish.lane q).board = (d.finish.lane q).board := by
    rw [← board_finish_alike h q, hk]
    rfl
  have opened : s.opened realign = k.openFrame := by rw [hk]; rfl
  have frame := frame_openFrame_loud loud
  have last := frame_finish d
  have stored := store_openFrame_loud loud
  have answers := answers_openFrame k loud
  rw [opened]
  have through {b : Block} (same : b.agree d s) (out : b ∉ [.loader, .time, .roster, .lanes, .store, .bus]) :
      b.agree d.finish k.openFrame := by
    have back : b.agree d.finish d := by
      have := last b (by simp_all)
      cases b <;> exact this.symm
    exact Block.agree_trans (Block.agree_trans (Block.agree_trans back same) (kept b (by simp_all))) (frame b (by simp_all))
  have rehearsal : k.openFrame.rehearsal = s.rehearsal :=
    (frame .rehearsal (by decide)).trans (kept .rehearsal (by decide))
  have own : d.finish.rehearsal = d.rehearsal := last .rehearsal (by decide)
  refine ⟨?_, ?_, ?_, ?_, ?_, ?_, fun q => ⟨?_, ?_⟩⟩
  · intro b hb
    cases b with
    | pins => exact through (h.read State.pins) (by decide)
    | labels => exact through (h.read State.labels) (by decide)
    | sources => exact through (h.read State.sources) (by decide)
    | sched => exact through (h.read State.sched) (by decide)
    | scale => exact through (h.read State.scale) (by decide)
    | zones => exact through (h.read State.zones) (by decide)
    | rules => exact through (h.read State.rules) (by decide)
    | settings => exact through (h.read State.settings) (by decide)
    | moment => exact through (h.read State.moment) (by decide)
    | pending => exact through (h.read State.pending) (by decide)
    | store =>
      have image : k.image = s.image := by rw [hk]; rfl
      show k.openFrame.store = { d.store with copy := d.image }
      rw [stored, image, h.image, show k.store = s.store from kept .store (by decide), store]
    | time | rehearsal | roster | loader | lanes | bus => exact absurd (by decide) hb
  · rw [frame .time (by decide), time.1, last .time (by decide)]
    exact h.read fun s => s.time.t
  · rw [frame .time (by decide), time.2, last .time (by decide)]
    exact h.read fun s => s.time.pendingTime
  · rw [frame .loader (by decide), loader, last .loader (by decide), show s.loader = d.loader from h.read State.loader]
  · rw [rehearsal, own]
    exact h.read fun s => { s.rehearsal with detail := d.rehearsal.detail }
  · rintro rfl
    rw [rehearsal, own]
    exact h.read State.rehearsal
  · have cursors : (k.openFrame.pos q).uncursored = (s.pos q).uncursored := (answers.pos q).trans (by rw [pos])
    have samplers : (s.pos q).core = (d.pos q).core := h.pos q
    rw [last.pos_eq (by decide) q]
    exact eq_of_frame cursors samplers
  · rw [← boards q]
    exact board_openFrame loud q

end

end Sys2Proof.Machine

namespace Sys2Proof.Machine

set_option Elab.async false

section
variable {s : State} {p : Pos} {r : Request}

theorem store_takeRequest (leaving : Bool) (p : Pos) (r : Request) (s : State) : (s.takeRequest leaving p r).store = s.store :=
  frame_takeRequest leaving p r s .store (by decide)

theorem store_judgedAll (segs : List (BitVec 48)) (order : FrameOrder) (s : State) : (s.judgedAll segs order).store = s.store := by
  unfold State.judgedAll State.rostered State.readied
  rw [frame_takeRequests _ _ _ .store (by decide), frame_frameEvents _ _ _ .store (by decide),
    frame_takeRequests _ _ _ .store (by decide), frame_heard _ _ .store (by decide)]

/-- The request's own command, from the OPEN lane of `State.alone`. -/
theorem deliver_alone (running : s.running = true) (occupied : s.occupied p = true) (fits : r.payload.length ≤ 30) :
    (s.alone p).deliver p r = (((s.alone p).judged p r).takeRequest false p r).finish := by
  refine State.deliver_eq ?_ fits
  have lane : (s.alone p).lane p = { s.lane p with inbound := .opened, buffer := [] } := Tab.get_put_self ..
  unfold State.hears
  rw [lane, show (s.alone p).running = s.running from rfl, running, show (s.alone p).occupied p = s.occupied p from rfl, occupied]
  rfl

end

/-- Settles O38: the form of a parcel (`feed_parcel`, `malformed_iff`); what a lane takes and owes at a frame's end
(`lane_of_none`, `lane_of_refused`, `lane_of_request`); and a request completed alone, whose frame is alike to its own command
(`judgedAll_alone`, `opened_alike`). -/
theorem parcelForm : Obligations.ParcelForm := by
  unfold Obligations.ParcelForm
  refine ⟨fun l kind len rest opened => ⟨feed_kind opened, ?_, malformed_iff rest⟩, ?_, ?_⟩
  · rw [feed_parcel rest opened]
    split <;> rfl
  · intro s segs order p running due early occupied idle
    obtain ⟨realign, run⟩ := frameEnd_opened (s := s) segs order running due
    refine ⟨_, run, fun seat => ?_⟩
    have hearing : SameArrival (s.nextMoment.hearing segs p) ((s.lane p).hear s.time.frame (segmentOf segs p).laneByte
        (segmentOf segs p).last (segmentOf segs p).offer) :=
      hearing_eq (s := s.nextMoment) occupied (show s.time.frame < 980 by omega) idle
    have early : s.nextMoment.time.frame < 979 := early
    have none := lane_of_none early seat
    have refused (kind payload c) := lane_of_refused (kind := kind) (payload := payload) (c := c) early seat
    have request (kind payload r) := lane_of_request (kind := kind) (payload := payload) (r := r) early seat
    clear run
    generalize (s.nextMoment.judgedAll segs order).opened realign = t at *
    generalize segmentOf segs p = c at *
    dsimp only
    refine ⟨fun idle => ?_, fun offered listens opens => ?_⟩
    · rw [hear_idle idle] at hearing
      obtain ⟨kept, empty⟩ := hearing
      exact inward_iff.mp ((none empty).trans kept)
    · rw [hear_byte offered listens opens] at hearing
      obtain ⟨heard, arrival⟩ := hearing
      have take := (inward_iff.mp heard).1
      generalize (s.lane p).takeByte c.laneByte c.last = taken at *
      obtain ⟨n, _ | ⟨kind, payload⟩⟩ := taken
      · obtain ⟨took, rest⟩ := inward_iff.mp ((none arrival).trans heard)
        exact ⟨took, rest⟩
      · cases parsed : Request.parse kind payload with
        | error code =>
          obtain ⟨took, held, buffer, owed⟩ := inward_iff.mp (refused kind payload code arrival parsed)
          refine ⟨took.trans take, held, buffer, ?_⟩
          rw [parsed]
          refine owed.trans ?_
          show some (formResponse kind code) = _
          unfold formResponse
          split
          · next bad => rw [bad]; rfl
          · rfl
        | ok r =>
          obtain ⟨a, owes, asked, muted⟩ := request kind payload r arrival parsed
          obtain ⟨took, held, buffer, owed⟩ := inward_iff.mp owes
          refine ⟨took.trans take, held, buffer, ?_⟩
          rw [parsed]
          refine ⟨r.response a, owed, (kind_of_parse parsed).1, rfl, fun k i e => ?_, fun q o action e unnamed => ?_⟩
          · rw [asked k i e]
            cases content t k i.toNat <;> exact ⟨rfl, rfl⟩
          · rw [muted q o action e unnamed]
            exact ⟨rfl, rfl⟩
  · intro s segs order p kind payload r c running due early arrived fits parsed notQuery command still timer timed v
    obtain ⟨realign, run⟩ := frameEnd_opened (s := s) segs order running due
    have tells : r.isQuery = false := by
      cases r with
      | query k i => exact absurd rfl (notQuery k i)
      | _ => rfl
    have occupied : s.occupied p = true :=
      occupied_of_arrivals (s := s) (a := (p, kind, payload)) (by rw [arrived]; exact List.mem_cons_self ..)
    have sent := deliver_alone (s := s) (r := r) running occupied (by rw [(kind_of_parse parsed).2]; exact fits)
    have alone : exec c v = .next ((s.alone p).deliver p r) := exec_of_requestOf command (s.alone p)
    refine ⟨_, _, run, alone, fun lead => ?_⟩
    rw [sent]
    have holder : (s.nextMoment.judgedAll segs order).time.holder = s.time.holder := (upholds_opened realign _).holder.symm.trans lead
    obtain ⟨alike, held, owed⟩ := judgedAll_alone arrived parsed tells still (fun loading => timed loading) holder
    have store : (s.nextMoment.judgedAll segs order).store = (((s.alone p).judged p r).takeRequest false p r).store := by
      rw [store_judgedAll, store_takeRequest]
      rfl
    have count : (s.nextMoment.judgedAll segs order).time.frame < 979 := by
      rw [frame_of_judgedAll]
      exact early
    obtain ⟨-, inbound, -, owes⟩ := inward_iff.mp (inward_opened (q := p) count realign)
    obtain ⟨same, second, pending, loader, rehearsal, latencies, lanes⟩ := opened_alike alike store count realign
    refine ⟨inbound.trans held, ?_, same, second, pending, loader, rehearsal, fun calm => ?_, lanes⟩
    · rw [owes, owed]
      exact (lane_finish _ p).2.symm
    · exact latencies (decide_eq_true calm)

end Sys2Proof.Machine
